-- ==== Sys2Proof/Word.lean ====
section
/-! DEFINITION. The words of the part: a byte of a link and the 32-bit line time (R18). -/

namespace Sys2Proof

/-- One byte on a link (chapter Frame and Telegram Layouts). -/
abbrev Byte := BitVec 8

/-- Line time: a 32-bit count of milliseconds that wraps from 2^32 - 1 to 0 (R18). -/
abbrev Time := BitVec 32

end Sys2Proof
end

