-- ==== Sys2Proof/Syntax.lean ====
section
/-! DEFINITION. The commands of the part: one constructor of `Instr` for each row of spec/opcode_table.json.

A request row carries the port it arrived on, its tag and its arguments as the frame carries them: numbers, with an
enumerated argument as its code and an absent identifier as 255 (R196, R198), so that a value outside its range can be
commanded and is refused by the rule that owns the request. An event row carries what the event names. -/

namespace Sys2Proof

/-- The three master ports (R182). -/
inductive Port where
  | dispatch | traffic | works
  deriving DecidableEq, Repr

/-- What a breaker's auxiliary contact or a point's detection contact reports. -/
inductive Contact where
  | opened | closed
  deriving DecidableEq, Repr

/-- The two contacts of a detector (R141). -/
inductive Side where
  | a | b
  deriving DecidableEq, Repr

/-- The two legs of a point, and its two detection contacts (R108). -/
inductive Leg where
  | left | right
  deriving DecidableEq, Repr

/-- A read frame begins with its first byte and completes when its status byte has been clocked (R180, R185, R197).
`completes` with no frame begun is the whole frame in one command. (DESIGN CHOICE, log 3) -/
inductive ReadPhase where
  | begins | completes
  deriving DecidableEq, Repr

/-- The nineteen numeric protection settings of R9, as carried and as stored. -/
structure SettingNumbers where
  tDead : Nat
  tSettle : Nat
  tClose : Nat
  tTrip : Nat
  /-- in seconds -/
  tReset : Nat
  tStep : Nat
  tStale : Nat
  nRc : Nat
  nLt : Nat
  w : Nat
  k : Nat
  iInst : Int
  iRev : Int
  dIset : Int
  thetaAlarm : Int
  thetaTrip : Int
  rT : Int
  rMin : Int
  vBf : Int
  deriving DecidableEq, Repr

/-- The protection settings as a request carries them: HOLD is code 0 and TRIP code 1 of `policy`. -/
structure ProtectionArgs extends SettingNumbers where
  policy : Nat
  deriving DecidableEq, Repr

/-- The network record as LOAD_NETWORK carries it (R6): NOTIFY is code 0 and TRIP_SECTION code 1 of `leakage`. -/
structure NetworkArgs where
  busCount : Nat
  tMatch : Nat
  tSilence : Nat
  tPoint : Nat
  tHold : Nat
  radioGroup : Nat
  leakage : Nat
  deriving DecidableEq, Repr

/-- The feeder record as LOAD_FEEDER carries it (R8, R9). -/
structure FeederArgs where
  feeder : Nat
  sec : Nat
  bus : Nat
  currentCh : Nat
  busCh : Nat
  lineCh : Nat
  protection : ProtectionArgs
  deriving DecidableEq, Repr

/-- The point record as LOAD_POINT carries it (R11): a facing direction is 0 for AB and 1 for BA. -/
structure PointArgs where
  point : Nat
  sec : Nat
  entry : Nat
  leftExit : Nat
  rightExit : Nat
  entryDir : Nat
  leftDir : Nat
  rightDir : Nat
  deriving DecidableEq, Repr

/-- One Scan List entry as WRITE_SCAN carries it (R21): flags are 0 or 1, modes NONE, ABOVE, BELOW, OUTSIDE are 0 to 3, and
the binding is 255 for NONE. -/
structure ScanArgs where
  channel : Nat
  settle : Nat
  record : Nat
  mode : Nat
  limit1 : Int
  limit2 : Int
  hysteresis : Nat
  pause : Nat
  binding : Nat
  deriving DecidableEq, Repr

/-- An answer of the converter link (R199); a late one answers a request whose transaction has ended already (R19). -/
structure ConverterAnswer where
  late : Bool
  bytes : List Byte
  deriving DecidableEq, Repr

/-- How an answer of the drive link arrived: to the message in flight, sound or with a framing error that the line reported, or
late, to a message whose transaction has ended already (R132). -/
inductive AnswerMark where
  | sound | framingError | late
  deriving DecidableEq, Repr

/-- The commands: one constructor for each row of spec/opcode_table.json, in the table's order. -/
inductive Instr where
  | loadNetwork (p : Port) (tag : Nat) (a : NetworkArgs)
  | loadSection (p : Port) (tag : Nat) (sec : Nat)
  | loadFeeder (p : Port) (tag : Nat) (a : FeederArgs)
  | loadDetector (p : Port) (tag : Nat) (det : Nat) (sideA : Nat) (sideB : Nat)
  | loadPoint (p : Port) (tag : Nat) (a : PointArgs)
  | startRun (p : Port) (tag : Nat)
  | restart (p : Port) (tag : Nat)
  | powerOnReset
  | lineTimeTick
  /-- The bytes the master sent, from byte 0 through the check word (R196). -/
  | requestFrame (p : Port) (bytes : List Byte)
  | readFrame (p : Port) (phase : ReadPhase)
  | framingError (p : Port)
  | readStatus (p : Port) (tag : Nat)
  | setMask (p : Port) (tag : Nat) (kinds : List Nat)
  | setLineMode (p : Port) (tag : Nat) (mode : Nat) (gap : Nat) (routing : Nat)
  | attentionGapEnd (p : Port)
  | attentionPulseEnd (p : Port)
  | writeScan (p : Port) (tag : Nat) (entries : List ScanArgs) (first : Nat) (len : Nat)
  | startScan (p : Port) (tag : Nat)
  | stopScan (p : Port) (tag : Nat)
  | resumeScan (p : Port) (tag : Nat)
  | calibrate (p : Port) (tag : Nat) (channel : Nat)
  | setMqThreshold (p : Port) (tag : Nat) (threshold : Nat)
  | readMeasurements (p : Port) (tag : Nat) (count : Nat)
  | scanSettleExpiry
  | converterAnswer (a : ConverterAnswer)
  | converterAnswerExpiry
  | staleTimerExpiry (f : Nat)
  | contactReportOpen (f : Nat)
  | contactReportClosed (f : Nat)
  | tripTimerExpiry (f : Nat)
  | closeTimerExpiry (f : Nat)
  | deadTimeExpiry (f : Nat)
  | settleTimerExpiry (f : Nat)
  | resetTimerExpiry (f : Nat)
  | closeFeeder (p : Port) (tag : Nat) (f : Nat)
  | openFeeder (p : Port) (tag : Nat) (f : Nat)
  | resetFeeder (p : Port) (tag : Nat) (f : Nat)
  | setProtection (p : Port) (tag : Nat) (f : Nat) (a : ProtectionArgs)
  | readFeeder (p : Port) (tag : Nat) (f : Nat)
  | isolate (p : Port) (tag : Nat) (number : Nat) (secs : List Nat)
  | release (p : Port) (tag : Nat) (number : Nat)
  | readPermit (p : Port) (tag : Nat) (number : Nat)
  | readSection (p : Port) (tag : Nat) (sec : Nat)
  | detectionContactChange (pt : Nat) (leg : Leg) (contact : Contact)
  | detectorContactClosing (det : Nat) (side : Side)
  /-- `vehicle` 0 names none; the reservation tag is `rtag`. -/
  | reserve (p : Port) (tag : Nat) (pt : Nat) (position : Nat) (vehicle : Nat) (rtag : Nat)
  | cancel (p : Port) (tag : Nat) (pt : Nat) (rtag : Nat)
  | flushPoint (p : Port) (tag : Nat) (pt : Nat)
  | cancelVehicle (p : Port) (tag : Nat) (vehicle : Nat)
  | holdTimerExpiry (pt : Nat)
  | holdPoint (p : Port) (tag : Nat) (pt : Nat)
  | freePoint (p : Port) (tag : Nat) (pt : Nat)
  | resetPoint (p : Port) (tag : Nat) (pt : Nat)
  | readPoint (p : Port) (tag : Nat) (pt : Nat)
  | driveTransactionStart
  /-- How the answer arrived, and its bytes (R132, R199). -/
  | driveAnswer (mark : AnswerMark) (bytes : List Byte)
  | driveAnswerExpiry
  | busyDelayExpiry (pt : Nat)
  | pointTimerExpiry (pt : Nat)
  | passEntryExpiry
  | silenceExpiry (vehicle : Nat)
  | vtTakeTelegram
  | retire (p : Port) (tag : Nat) (vehicle : Nat)
  | readVehicle (p : Port) (tag : Nat) (vehicle : Nat)
  /-- `code` is 1 to 5 for the five fault codes and 0 for ALL. -/
  | clearFault (p : Port) (tag : Nat) (vehicle : Nat) (code : Nat)
  | radioEnable (p : Port) (tag : Nat) (receive : Nat) (transmit : Nat)
  | flushRadio (p : Port) (tag : Nat)
  | allStop (p : Port) (tag : Nat)
  | receiveIdleGap
  | transmitStart
  | transmitEnd
  /-- `bad` says that the byte arrived with a framing or noise error (R161). -/
  | radioByteArrival (byte : Byte) (bad : Bool)
  | detectorContactOpening (det : Nat) (side : Side)
  deriving DecidableEq, Repr

end Sys2Proof
end

