-- ==== Sys2Proof/Decode.lean ====
section
/-! DEFINITION. The check word (R162, chapter Frame and Telegram Layouts), and the request a frame's bytes spell (R181, R196,
R198). spec/opcode_table.json gives no row any bits, so no table word spells a command. -/

namespace Sys2Proof

/-! ## Check words (R162) -/

/-- The sum of bytes, each a number from 0 to 255. -/
def byteSum (bs : List Byte) : Nat := (bs.map BitVec.toNat).sum

/-- The check word of the bytes before it (R162). -/
def checkWord (bs : List Byte) : Nat := (65536 - byteSum bs % 65536) % 65536

/-- A two-byte number, high byte first. -/
def wordOf (hi lo : Byte) : Nat := hi.toNat * 256 + lo.toNat

/-- The two bytes of a number modulo 65536, high byte first; a negative one in two's complement. -/
def wordBytes (n : Int) : List Byte := [BitVec.ofInt 8 (n / 256), BitVec.ofInt 8 n]

/-- Bytes closed by their check word. -/
def withCheck (bs : List Byte) : List Byte := bs ++ wordBytes (checkWord bs)

/-- The check of a string of bytes that its check word closes: the sum of the bytes before it and the check word is 0 modulo
65536 (R162). A string too short for a check word fails. -/
def checkOk (bs : List Byte) : Bool :=
  match bs.reverse with
  | lo :: hi :: rest => decide ((byteSum rest + wordOf hi lo) % 65536 = 0)
  | _ => false

/-! ## The fields of a frame (R198) -/

/-- Reads fields from the front of a string of bytes. -/
abbrev Rd (α : Type) := StateT (List Byte) Option α

def rd8 : Rd Nat := fun bs =>
  match bs with
  | [] => none
  | b :: bs => some (b.toNat, bs)

/-- A two-byte unsigned field. -/
def rd16 : Rd Nat := fun bs =>
  match bs with
  | hi :: lo :: bs => some (wordOf hi lo, bs)
  | _ => none

/-- A two-byte signed field. -/
def rd16s : Rd Int := fun bs =>
  match bs with
  | hi :: lo :: bs => some ((hi ++ lo).toInt, bs)
  | _ => none

def rdTimes {α : Type} (r : Rd α) : Nat → Rd (List α)
  | 0 => pure []
  | n + 1 => do
    let x ← r
    let xs ← rdTimes r n
    pure (x :: xs)

/-- A list: the number of its items, then the items. -/
def rdList {α : Type} (r : Rd α) : Rd (List α) := do
  let n ← rd8
  rdTimes r n

/-- The settings in the order of R9. -/
def rdProtection : Rd ProtectionArgs := do
  let tDead ← rd16
  let tSettle ← rd16
  let tClose ← rd16
  let tTrip ← rd16
  let tReset ← rd16
  let tStep ← rd16
  let tStale ← rd16
  let nRc ← rd8
  let nLt ← rd8
  let w ← rd8
  let k ← rd8
  let iInst ← rd16s
  let iRev ← rd16s
  let dIset ← rd16s
  let thetaAlarm ← rd16
  let thetaTrip ← rd16
  let rT ← rd16
  let rMin ← rd16
  let vBf ← rd16
  let policy ← rd8
  pure { tDead, tSettle, tClose, tTrip, tReset, tStep, tStale, nRc, nLt, w, k, iInst, iRev, dIset,
         thetaAlarm, thetaTrip, rT, rMin, vBf, policy }

def rdNetwork : Rd NetworkArgs := do
  let busCount ← rd8
  let tMatch ← rd16
  let tSilence ← rd16
  let tPoint ← rd16
  let tHold ← rd16
  let radioGroup ← rd8
  let leakage ← rd8
  pure { busCount, tMatch, tSilence, tPoint, tHold, radioGroup, leakage }

def rdFeeder : Rd FeederArgs := do
  let feeder ← rd8
  let sec ← rd8
  let bus ← rd8
  let currentCh ← rd8
  let busCh ← rd8
  let lineCh ← rd8
  let protection ← rdProtection
  pure { feeder, sec, bus, currentCh, busCh, lineCh, protection }

/-- The arguments of LOAD_POINT (R11): the three detectors, then their three facing directions. (DESIGN CHOICE, log 19) -/
def rdPoint : Rd PointArgs := do
  let point ← rd8
  let sec ← rd8
  let entry ← rd8
  let leftExit ← rd8
  let rightExit ← rd8
  let entryDir ← rd8
  let leftDir ← rd8
  let rightDir ← rd8
  pure { point, sec, entry, leftExit, rightExit, entryDir, leftDir, rightDir }

def rdScanEntry : Rd ScanArgs := do
  let channel ← rd8
  let settle ← rd8
  let record ← rd8
  let mode ← rd8
  let limit1 ← rd16s
  let limit2 ← rd16s
  let hysteresis ← rd16
  let pause ← rd8
  let binding ← rd8
  pure { channel, settle, record, mode, limit1, limit2, hysteresis, pause, binding }

/-- The arguments of each request kind by its code, 1 to 40 in the order of R182. (DESIGN CHOICE, log 20) (DESIGN CHOICE,
log 26) -/
def rdRequest (p : Port) (tag : Nat) (kind : Nat) : Rd Instr :=
  match kind with
  | 1 => do pure (.closeFeeder p tag (← rd8))
  | 2 => do pure (.openFeeder p tag (← rd8))
  | 3 => do pure (.resetFeeder p tag (← rd8))
  | 4 => do
    let f ← rd8
    let a ← rdProtection
    pure (.setProtection p tag f a)
  | 5 => do
    let es ← rdList rdScanEntry
    let first ← rd8
    let len ← rd8
    pure (.writeScan p tag es first len)
  | 6 => pure (.startScan p tag)
  | 7 => pure (.stopScan p tag)
  | 8 => pure (.resumeScan p tag)
  | 9 => do pure (.calibrate p tag (← rd8))
  | 10 => do pure (.setMqThreshold p tag (← rd8))
  | 11 => do pure (.readMeasurements p tag (← rd8))
  | 12 => do pure (.readFeeder p tag (← rd8))
  | 13 => do pure (.readSection p tag (← rd8))
  | 14 => pure (.allStop p tag)
  | 15 => do
    let pt ← rd8
    let position ← rd8
    let vehicle ← rd16
    let rtag ← rd16
    pure (.reserve p tag pt position vehicle rtag)
  | 16 => do
    let pt ← rd8
    let rtag ← rd16
    pure (.cancel p tag pt rtag)
  | 17 => do pure (.cancelVehicle p tag (← rd16))
  | 18 => do pure (.flushPoint p tag (← rd8))
  | 19 => do pure (.resetPoint p tag (← rd8))
  | 20 => do pure (.readPoint p tag (← rd8))
  | 21 => do pure (.readVehicle p tag (← rd16))
  | 22 => do
    let v ← rd16
    let code ← rd8
    pure (.clearFault p tag v code)
  | 23 => do pure (.retire p tag (← rd16))
  | 24 => do
    let receive ← rd8
    let transmit ← rd8
    pure (.radioEnable p tag receive transmit)
  | 25 => pure (.flushRadio p tag)
  | 26 => do pure (.loadNetwork p tag (← rdNetwork))
  | 27 => do pure (.loadSection p tag (← rd8))
  | 28 => do pure (.loadFeeder p tag (← rdFeeder))
  | 29 => do
    let det ← rd8
    let sideA ← rd8
    let sideB ← rd8
    pure (.loadDetector p tag det sideA sideB)
  | 30 => do pure (.loadPoint p tag (← rdPoint))
  | 31 => pure (.startRun p tag)
  | 32 => pure (.restart p tag)
  | 33 => do
    let number ← rd16
    let secs ← rdList rd8
    pure (.isolate p tag number secs)
  | 34 => do pure (.release p tag (← rd16))
  | 35 => do pure (.holdPoint p tag (← rd8))
  | 36 => do pure (.freePoint p tag (← rd8))
  | 37 => do pure (.readPermit p tag (← rd16))
  | 38 => pure (.readStatus p tag)
  | 39 => do pure (.setMask p tag (← rdList rd8))
  | 40 => do
    let mode ← rd8
    let gap ← rd8
    let routing ← rd8
    pure (.setLineMode p tag mode gap routing)
  | _ => fun _ => none

/-! ## The frame (R196) -/

/-- A request frame: declared length, request kind, tag and argument bytes. -/
structure RequestFrame where
  declared : Nat
  kind : Nat
  tag : Nat
  args : List Byte
  ok : Bool
  deriving DecidableEq, Repr

/-- The request frame in the bytes a master sent, as far as its declared length; `ok` is check 1 of R181. A frame is
complete at its declared length, or at 7 bytes when that is below 7 (R196). None for a string that is no complete request
frame. (DEDUCED, log 27) -/
def readRequestFrame (bytes : List Byte) : Option RequestFrame :=
  match bytes with
  | k :: l1 :: l0 :: kind :: tag :: rest =>
    let declared := wordOf l1 l0
    if k.toNat ≠ 1 ∨ bytes.length < max 7 declared then none
    else
      some
        { declared := declared, kind := kind.toNat, tag := tag.toNat, args := rest.take (declared - 7)
          ok := decide (7 ≤ declared ∧ declared ≤ 255) && checkOk (bytes.take declared) }
  | _ => none

/-- The request that a frame's arguments spell: none where the layout of its kind does not match their number (R196). -/
def RequestFrame.request (fr : RequestFrame) (p : Port) : Option Instr :=
  match rdRequest p fr.tag fr.kind fr.args with
  | some (i, []) => some i
  | _ => none

/-- The command a word spells by the table's bits: the table gives none of its rows any bits. (DESIGN CHOICE, log 37) -/
def decodeTableWord (_nbits _w : Nat) : Option Instr := none

end Sys2Proof
end

