-- ==== Sys2Proof/Config.lean ====
section
/-! DEFINITION. The fixed capacities and times of the part. The spec leaves no value of it to the implementation, so this
file holds constants only and no free value. -/

namespace Sys2Proof.Config

/-- Reply Queue: 32 entries, of which at most 28 are notices (R185). -/
def replyQueueMax : Nat := 32
/-- The notices' share of a Reply Queue (R185). -/
def noticeMax : Nat := 28
/-- Insert Queue places (R29). -/
def insertMax : Nat := 4
/-- Measurement Queue places (R37). -/
def measurementMax : Nat := 64
/-- Entries of the history ring (R46). -/
def ringMax : Nat := 16
/-- Permit Table places (R98). -/
def permitMax : Nat := 32
/-- Reservations of one point (R111). -/
def reservationMax : Nat := 4
/-- Highest collector count (R110). -/
def collectorMax : Nat := 3
/-- Sends of one drive link transaction (R133, R134). -/
def sendMax : Nat := 3
/-- Pass List places (R143). -/
def passMax : Nat := 32
/-- Vehicle Table records (R148). -/
def vehicleMax : Nat := 64
/-- Receive Queue places (R164). -/
def receiveMax : Nat := 16
/-- Transmit Queue places (R166). -/
def transmitMax : Nat := 8
/-- Converter answer expiry, and the rest of the converter link after a reset, in ms (R19, R16). -/
def converterExpiryMs : Nat := 2
/-- Drive answer expiry, and the rest of the drive link after a reset, in ms (R131, R16). -/
def driveExpiryMs : Nat := 30
/-- Wait before a send after a BUSY answer, in ms (R134). -/
def busyDelayMs : Nat := 50
/-- Three byte times of the radio link, in ms (R160). -/
def idleGapMs : Nat := 3
/-- Bad telegrams in a row that degrade the radio link (R163). -/
def badRunAlarm : Nat := 8
/-- Longest entry a read frame clocks out, in bytes (R197). -/
def entryBytesMax : Nat := 1024
/-- The clamp of a sample's value (R41). -/
def valueMax : Int := 12000
/-- Conversions of a CALIBRATE insert (R35). -/
def calibrateSize : Nat := 8

end Sys2Proof.Config
end

