-- ==== Sys2Proof/Machine/State.lean ====
section
/-! DEFINITION. The state of the part as plain data: every record, queue, counter, flag, timer, output and input the spec
gives its fourteen blocks, the replies and notices its ports hold, and the queue of commands that wait. -/

namespace Sys2Proof.Machine

open Sys2Proof

/-! ## Timers (R18) -/

/-- A running timer: "a start value of line time and a setting" (R18). The setting is in milliseconds.
A stopped timer is `none`. -/
structure Timer where
  start : Time
  setting : Nat
  deriving DecidableEq, Repr

/-! ## Names of the spec -/

/-- The two device states (R1, R2). -/
inductive DeviceMode where
  | config | run
  deriving DecidableEq, Repr

/-- The direction of a pass (R10, R141). -/
inductive Dir where
  | ab | ba
  deriving DecidableEq, Repr

/-- The leakage action of the network record (R6). -/
inductive LeakAction where
  | notify | tripSection
  deriving DecidableEq, Repr

/-- The degrade policy of a feeder (R9, R56). -/
inductive Policy where
  | hold | trip
  deriving DecidableEq, Repr

/-- Sample classes (R41). -/
inductive SampleClass where
  | normal | over | under | invalid
  deriving DecidableEq, Repr

/-- Compare modes of a Scan List entry (R21). -/
inductive CompareMode where
  | none | above | below | outside
  deriving DecidableEq, Repr

/-- The direction of a crossing (R21, R32). -/
inductive CrossDir where
  | low | high
  deriving DecidableEq, Repr

/-- Presence of a converter (R20). -/
inductive Presence where
  | present | failed
  deriving DecidableEq, Repr

/-- Sub-phases of DEAD_TIME (R64). -/
inductive DeadPhase where
  | timing | cooling | awaitLeader
  deriving DecidableEq, Repr

/-- Sub-phases of LINE_TEST (R64). -/
inductive TestPhase where
  | waitSlot | precheck | settle | waitTestSlot | test
  deriving DecidableEq, Repr

/-- A feeder's state with its sub-phase (R64): only DEAD_TIME and LINE_TEST have one. -/
inductive FeederState where
  | opened | closing | closed | tripping
  | deadTime (p : DeadPhase)
  | lineTest (p : TestPhase)
  | waitClear | lockout | held | breakerFail
  deriving DecidableEq, Repr

/-- A feeder's cause; the cause "none" is the absent value (R64). -/
inductive Cause where
  | command | inst | reverse | step | thermal | degraded | external | intertrip | vehicle | permit | backfed
  | testInvalid | partner | closeOntoFault
  deriving DecidableEq, Repr

/-- Reclose roles (R64, R69). -/
inductive RecloseRole where
  | none | leader | follower
  deriving DecidableEq, Repr

/-- Results of a precheck (R59). -/
inductive PrecheckResult where
  | passed | backfed | invalid
  deriving DecidableEq, Repr

/-- Classes of a test (R60, R61). -/
inductive TestClass where
  | short | opened | normal | invalid
  deriving DecidableEq, Repr

/-- Outcomes of a test (R62). -/
inductive TestOutcome where
  | healthy | faulty | invalid
  deriving DecidableEq, Repr

/-- Section states (R90). -/
inductive SectionState where
  | energised | dead | isolated
  deriving DecidableEq, Repr

/-- Permit states in the order of R98, and RELEASED, which a notice alone carries (R102), behind them. (DESIGN CHOICE, log 19)
-/
inductive PermitState where
  | pending | granted | failed | released
  deriving DecidableEq, Repr

/-- Positions of a point (R108, R109). -/
inductive Position where
  | left | right | moving | unknown
  deriving DecidableEq, Repr

/-- Drive states of a point (R108). -/
inductive DriveState where
  | idle | waitPower | waitClear | queued | sending | moving | blocked | worksHeld | failed
  deriving DecidableEq, Repr

/-- Results of a drive, and their places in a last drive result: the three that R108 names, then the failing results, which R108
does not list, as R136 and R137 name them, where R132 and R140 have other orders. (DESIGN CHOICE, log 19) -/
inductive DriveResult where
  | reached | powerLost | withdrawn | refusedLocal | jammed | noAnswer | busy | notReached
  deriving DecidableEq, Repr

/-- What DLC has still to carry for a point (R129). -/
inductive DriveWork where
  | none | resync | throw | resyncThenThrow
  deriving DecidableEq, Repr

/-- What is known of a drive unit's expected bit (R129). -/
inductive SyncState where
  | resyncPending | synchronised | unsynchronised
  deriving DecidableEq, Repr

/-- The point role of a detector (R10, R13). -/
inductive DetectorRole where
  | entry | leftExit | rightExit
  deriving DecidableEq, Repr

/-- Vehicle states (R148). -/
inductive VehicleState where
  | active | faulted | lost
  deriving DecidableEq, Repr

/-- Vehicle fault codes (R170). -/
inductive FaultCode where
  | dewire | leakage | traction | overload | auxSupply
  deriving DecidableEq, Repr

/-- Who cleared a fault entry (R176, R177). -/
inductive ClearSource where
  | radio | master
  deriving DecidableEq, Repr

/-- Why DEGRADED was raised (R45, R55). -/
inductive DegradeReason where
  | stale | invalid
  deriving DecidableEq, Repr

/-- Why a calibration failed (R36). -/
inductive CalReason where
  | invalid | saturated | live
  deriving DecidableEq, Repr

/-- The breaker operation that failed, in the order in which R71 and R79 name them. (DESIGN CHOICE, log 19) -/
inductive BreakerOp where
  | trip | close
  deriving DecidableEq, Repr

/-! ## The network description (R6 to R11) -/

/-- The network record (R6). -/
structure NetRecord where
  busCount : Nat
  /-- ms -/
  tMatch : Nat
  /-- s -/
  tSilence : Nat
  /-- ms -/
  tPoint : Nat
  /-- s; 0 is no hold limit -/
  tHold : Nat
  radioGroup : Nat
  leakage : LeakAction
  deriving DecidableEq, Repr

/-- The protection settings of a feeder as stored (R9). -/
structure Settings extends SettingNumbers where
  policy : Policy
  deriving DecidableEq, Repr

/-- A feeder record: connections and settings (R8, R9). -/
structure FeederRec where
  sec : Nat
  bus : Nat
  currentCh : Nat
  busCh : Nat
  lineCh : Nat
  settings : Settings
  deriving DecidableEq, Repr

/-- A detector record; a side that is NONE is absent (R10). -/
structure DetectorRec where
  sideA : Option Nat
  sideB : Option Nat
  deriving DecidableEq, Repr

/-- A point record: the frame of a point in the wire (R11). -/
structure PointRec where
  sec : Nat
  entry : Nat
  leftExit : Nat
  rightExit : Nat
  entryDir : Dir
  leftDir : Dir
  rightDir : Dir
  deriving DecidableEq, Repr

/-- The five configuration tables, a slot for each identifier (R4). -/
structure NetTables where
  network : Option NetRecord
  sections : Vector (Option Unit) 24
  feeders : Vector (Option FeederRec) 16
  detectors : Vector (Option DetectorRec) 48
  points : Vector (Option PointRec) 16
  deriving DecidableEq, Repr

/-- The derived lists START_RUN builds (R13). (DEDUCED, log 36) -/
structure Derived where
  /-- each section's feeders, ascending -/
  feedersOf : Vector (List Nat) 24
  /-- the other feeder of a two-fed section -/
  partner : Vector (Option Nat) 16
  /-- each bus's feeders, ascending -/
  busFeeders : Vector (List Nat) 4
  /-- each section's boundary set -/
  boundary : Vector (List Nat) 24
  /-- each section's points, ascending -/
  pointsOf : Vector (List Nat) 24
  /-- each detector's point and role -/
  roles : Vector (Option (Nat × DetectorRole)) 48
  deriving DecidableEq, Repr

/-! ## The discrete inputs -/

/-- A closed detector contact: when it closed, and whether the other contact was open then (R141). -/
structure ClosedContact where
  since : Time
  otherOpen : Bool
  deriving DecidableEq, Repr

/-- The debounced inputs as last reported (R3, R64, R108, R141). An open detector contact is `none`. -/
structure Pins where
  aux : Vector Contact 16
  leftDetection : Vector Contact 16
  rightDetection : Vector Contact 16
  detA : Vector (Option ClosedContact) 48
  detB : Vector (Option ClosedContact) 48
  deriving DecidableEq, Repr

/-! ## CLC and SQ (R19 to R31), MQ (R37 to R39), latest values (R40) -/

/-- Whose transaction is on the converter link; `discarded` is a withdrawn insert's (R31). -/
inductive ConversionOwner where
  | walk | insert | discarded
  deriving DecidableEq, Repr

/-- The converter transaction in flight: its channel, the select line and the request bytes that CLC sends for it, its 2 ms
answer expiry, and whose it is (R19, chapter Frame and Telegram Layouts). -/
structure Conversion where
  channel : Nat
  select : Nat
  bytes : List Byte
  expiry : Timer
  owner : ConversionOwner
  deriving DecidableEq, Repr

/-- Converter Link Controller. `rest` runs for the 2 ms after a reset in which no transaction begins (R16). -/
structure Clc where
  inFlight : Option Conversion
  presence : Vector Presence 6
  rest : Option Timer
  deriving DecidableEq, Repr

/-- A Scan List entry; limit state INSIDE is `crossing = none`, CROSSED holds its direction (R21). -/
structure ScanEntry where
  channel : Nat
  settle : Nat
  record : Bool
  mode : CompareMode
  limit1 : Int
  limit2 : Int
  hysteresis : Nat
  pause : Bool
  binding : Option Nat
  crossing : Option CrossDir
  deriving DecidableEq, Repr

/-- Sequencer states; RUNNING is one of `settle`, `converting` and `between`. -/
inductive SqMode where
  | stopped | settle | converting | between | paused
  deriving DecidableEq, Repr

/-- Insert kinds (R29). -/
inductive InsertKind where
  | precheck | test | calibrate
  deriving DecidableEq, Repr

/-- A sample: class and value (R41). -/
structure Sample where
  cls : SampleClass
  value : Int
  deriving DecidableEq, Repr

/-- A result kept with an insert: the raw code and VALID flag (for calibration), the classified sample (for the
line-test arithmetic), and whether the calibrated feeder was live at its arrival (R30, R36). -/
structure KeptResult where
  code : Int
  valid : Bool
  sample : Sample
  live : Bool
  deriving DecidableEq, Repr

/-- An insert: requester (a feeder, or a channel for CALIBRATE), its size fixed on entry, its results so far (R29, R30). -/
structure Insert where
  kind : InsertKind
  who : Nat
  size : Nat
  results : List KeptResult
  deriving DecidableEq, Repr

/-- A line-test request in the slot wait list (R29). -/
structure SlotRequest where
  kind : InsertKind
  feeder : Nat
  deriving DecidableEq, Repr

/-- A channel's latest walk value (R40). -/
structure Latest where
  cls : SampleClass
  value : Int
  time : Time
  deriving DecidableEq, Repr

/-- Scan Sequencer (R21 to R31, R40). `settle` is the running settle delay of the entry in progress; `serving` says that
the head insert is in service. -/
structure Sq where
  slots : Vector (Option ScanEntry) 48
  length : Nat
  mode : SqMode
  next : Nat
  stopPending : Bool
  cycles : BitVec 16
  settle : Option Timer
  inserts : List Insert
  serving : Bool
  waiting : List SlotRequest
  latest : Vector (Option Latest) 48
  deriving DecidableEq, Repr

/-- A measurement record (R37). -/
structure MeasRecord where
  entry : Nat
  channel : Nat
  cls : SampleClass
  value : Int
  time : Time
  cycle : BitVec 16
  deriving DecidableEq, Repr

/-- Measurement Queue (R37 to R39). -/
structure Mq where
  records : List MeasRecord
  threshold : Nat
  overflow : Bool
  armed : Bool
  deriving DecidableEq, Repr

/-! ## PU and FC (R43, R64) -/

/-- An armed step (R52). -/
structure StepArm where
  base : Int
  holdLevel : Int
  armTime : Time
  deriving DecidableEq, Repr

/-- An entry of the history ring (R46). -/
structure RingEntry where
  value : Int
  time : Time
  deriving DecidableEq, Repr

/-- The protection state of a feeder (R43): the step is DISARMED when `step` is absent, an arming is ARMED when true. -/
structure Pu where
  offset : Int
  ring : List RingEntry
  step : Option StepArm
  theta : Int
  alarmArmed : Bool
  invalidRun : Nat
  stale : Option Timer
  degradeArmed : Bool
  deriving DecidableEq, Repr

/-- What the last precheck or test of a feeder reported (R64, R76, R78). -/
inductive LineTestReport where
  | precheck (result : PrecheckResult) (vbar : Option Int)
  | test (cls : TestClass) (r : Int) (outcome : TestOutcome)
  deriving DecidableEq, Repr

/-- The last line test of a feeder (R64). -/
structure LastTest where
  report : LineTestReport
  time : Time
  deriving DecidableEq, Repr

/-- A feeder of the Feeder Table: its record, running fields and outputs (R64, R65), its protection state (R43), and the
live-on-isolated arming that SM keeps for it (R90). The contact position is the pin `Pins.aux`. -/
structure Feeder where
  conn : FeederRec
  state : FeederState
  cause : Option Cause
  attempts : Nat
  role : RecloseRole
  openPending : Bool
  closeOntoFault : Bool
  backfed : Nat
  stateTimer : Option Timer
  resetTimer : Option Timer
  lastTest : Option LastTest
  tripCoil : Bool
  closeCoil : Bool
  testContactor : Bool
  pu : Pu
  liveArmed : Bool
  deriving DecidableEq, Repr

/-! ## SM and PT (R90, R98) -/

/-- A section of the Section Table (R90). -/
structure SectionRec where
  state : SectionState
  lowVoltage : Bool
  occupancy : Nat
  inhibit : Nat
  permits : Nat
  leader : Option Nat
  deriving DecidableEq, Repr

/-- A permit (R98). -/
structure Permit where
  number : Nat
  secs : List Nat
  state : PermitState
  time : Time
  deriving DecidableEq, Repr

/-! ## PC and DLC (R108, R111, R129) -/

/-- A reservation: ACTIVE with its active time, or WAITING with none (R111). -/
structure Reservation where
  position : Leg
  vehicle : Option Nat
  rtag : Nat
  active : Option Time
  overdue : Bool
  deriving DecidableEq, Repr

/-- The link record of a point (R129). -/
structure LinkRecord where
  work : DriveWork
  sync : SyncState
  sends : Nat
  bitSent : Bool
  busyDelay : Option Timer
  tPoint : Option Timer
  deriving DecidableEq, Repr

/-- A point of the Point Table (R108) with the T_hold timer of an ACTIVE head (R120) and its link record. The two contacts
are pins, and the position is read from them through R109. -/
structure Point where
  frame : PointRec
  drive : DriveState
  target : Option Leg
  count : Nat
  countFault : Bool
  blocked : Bool
  worksHeld : Bool
  failed : Bool
  queue : List Reservation
  seqBit : Bool
  attempt : Nat
  lastResult : Option DriveResult
  hold : Option Timer
  link : LinkRecord
  deriving DecidableEq, Repr

/-- The drive link transaction in flight: the point that holds the link, the message on the line, its answer expiry (R131). -/
structure DriveFlight where
  point : Nat
  resync : Bool
  bytes : List Byte
  expiry : Timer
  deriving DecidableEq, Repr

/-- Drive Link Controller. `rest` runs for the 30 ms after a reset in which no transaction begins (R16). -/
structure Dlc where
  queue : List Nat
  link : Option DriveFlight
  rest : Option Timer
  deriving DecidableEq, Repr

/-! ## PM and VT (R143, R148, R170) -/

/-- The kind of a Pass List entry; a TELEGRAM names its vehicle (R143). -/
inductive PassKind where
  | contact
  | telegram (vehicle : Nat)
  deriving DecidableEq, Repr

/-- A Pass List entry (R143). -/
structure PassEntry where
  kind : PassKind
  det : Nat
  dir : Dir
  time : Time
  deriving DecidableEq, Repr

/-- A fault entry (R170). -/
structure FaultEntry where
  code : FaultCode
  detail : Nat
  det : Option Nat
  first : Time
  last : Time
  deriving DecidableEq, Repr

/-- A record of the Vehicle Table (R148). A section UNKNOWN is absent. ACTIVE, FAULTED and LOST are read from `lost` and
the fault list; the silence timer runs from `heard` exactly while the vehicle is not LOST. -/
structure Vehicle where
  id : Nat
  lost : Bool
  sec : Option Nat
  lastPass : Option (Nat × Dir)
  heard : Time
  unconfirmed : Bool
  faults : List FaultEntry
  deriving DecidableEq, Repr

/-- Vehicle Tracker: the records held, of 64, and the table-full arming (R148, R150). (DESIGN CHOICE, log 35) -/
structure Vt where
  vehicles : List Vehicle
  fullArmed : Bool
  deriving DecidableEq, Repr

/-! ## RLC (R159 to R169) -/

/-- What a good telegram from a vehicle says (R161). A CLR of ALL names no code. -/
inductive RxBody where
  | pos (vehicle det : Nat) (dir : Dir)
  | flt (vehicle : Nat) (code : FaultCode) (detail : Nat) (det : Nat)
  | clr (vehicle : Nat) (code : Option FaultCode)
  deriving DecidableEq, Repr

/-- A telegram of the Receive Queue with its arrival time (R164). -/
structure RxTelegram where
  body : RxBody
  arrival : Time
  deriving DecidableEq, Repr

/-- A telegram for the vehicles (R166, R169). -/
inductive TxTelegram where
  | secDead (sec : Nat) (state : SectionState)
  | secLive (sec : Nat)
  | ptBlock (pt : Nat) (det : Nat)
  | fltAck (vehicle : Nat) (code : FaultCode)
  | allStop
  deriving DecidableEq, Repr

/-- A byte as the receiver took it, with its error mark (R161). -/
structure RadioByte where
  byte : Byte
  bad : Bool
  deriving DecidableEq, Repr

/-- The telegram on the air: what it is, and its bytes (R162, R168). -/
structure Sending where
  telegram : TxTelegram
  bytes : List Byte
  deriving DecidableEq, Repr

/-- Radio Link Controller. `lastByte` is the line time of the last byte taken; `gapAfterSend` runs for the three byte times
after a transmission (R168). -/
structure Rlc where
  rxEnable : Bool
  rxAck : Bool
  txEnable : Bool
  txAck : Bool
  inGap : Bool
  lastByte : Time
  assembling : Option (List RadioByte)
  rxQueue : List RxTelegram
  overrun : Bool
  overrunCount : Nat
  badRun : Nat
  degradedArmed : Bool
  txQueue : List TxTelegram
  txOverflow : Bool
  allStop : Bool
  sending : Option Sending
  gapAfterSend : Option Timer
  deriving DecidableEq, Repr

/-! ## PO: notices, replies, ports (R180 to R195) -/

/-- The notice kinds, in the order of the catalogue. -/
inductive NoticeKind where
  | converterFault
  | scanPaused | limitCrossed | limitCleared | calDone | calFailed
  | measReady
  | thermalAlarm | lineTestResult | externalClose
  | protectionDegraded | trip | breakerFail
  | feederState
  | closedWhileHeld
  | sectionState
  | permitState
  | liveOnIsolated
  | enteredIsolated
  | restarted
  | pointState
  | detectionFault | countFault | pointMoved | pointSet | wrongExit | reservationExpired | pointBlocked | pointResult
  | unidentifiedPass | vehicleMoved | unconfirmedMove | enteredDead | vehicleNew | vehicleEvicted | vehicleTableFull
  | vehicleLost | vehicleFound
  | vehicleFault
  | faultCleared | txOverflow
  | radioDegraded | radioOverrun
  deriving DecidableEq, Repr

/-- Kinds of a received telegram, as notices name them. -/
inductive RxKind where
  | pos | flt | clr
  deriving DecidableEq, Repr

/-- The content of a limit notice (R33). -/
structure LimitContent where
  entry : Nat
  channel : Nat
  cls : SampleClass
  value : Int
  dir : CrossDir
  cycle : BitVec 16
  deriving DecidableEq, Repr

/-- The content of POINT_STATE (R114). -/
structure PointStateContent where
  pt : Nat
  position : Position
  drive : DriveState
  target : Option Leg
  count : Nat
  countFault : Bool
  blocked : Bool
  worksHeld : Bool
  failed : Bool
  reservations : Nat
  headTag : Option Nat
  headActive : Option Bool
  lastResult : Option DriveResult
  deriving DecidableEq, Repr

/-- The content of POINT_RESULT (R140). -/
structure PointResultContent where
  pt : Nat
  resync : Bool
  target : Option Leg
  result : DriveResult
  sends : Nat
  bit : Bool
  seqBit : Bool
  attempt : Nat
  position : Position
  powered : Bool
  deriving DecidableEq, Repr

/-- The content of a notice about a reservation (R113, R119, R120): `leg` is the leg taken, for WRONG_EXIT. -/
structure ReservationContent where
  pt : Nat
  position : Leg
  rtag : Nat
  vehicle : Option Nat
  deriving DecidableEq, Repr

/-- Every notice with the content its owning rule gives; the line time stands in `Notice`. -/
inductive NoticeBody where
  | converterFault (converter : Nat) (presence : Presence)
  | scanPaused (completed next : Nat)
  | limitCrossed (c : LimitContent)
  | limitCleared (c : LimitContent)
  | calDone (channel : Nat) (offset : Int)
  | calFailed (channel : Nat) (reason : CalReason)
  | measReady (count : Nat)
  | thermalAlarm (f : Nat) (theta thetaAlarm : Int)
  | precheckResult (f : Nat) (result : PrecheckResult) (vbar : Option Int) (attempts backfed : Nat)
  | testResult (f : Nat) (cls : TestClass) (r rEff : Int) (occupancy attempts : Nat)
  | externalClose (f : Nat) (was : FeederState)
  | protectionDegraded (f : Nat) (reason : DegradeReason) (invalidRun : Nat)
  | trip (f : Nat) (cause : Cause) (theta : Int) (sample : Option Sample)
  | breakerFail (f : Nat) (op : BreakerOp) (contact : Contact) (intertripped : List Nat)
  | feederState (f : Nat) (state : FeederState) (cause : Option Cause) (attempts : Nat) (role : RecloseRole)
  | closedWhileHeld (f : Nat)
  | sectionState (sec : Nat) (state : SectionState) (lowVoltage : Bool) (occupancy inhibit permits : Nat)
  | permitState (number : Nat) (state : PermitState) (secs : List Nat) (stamp : Time) (failedFeeder : Option Nat)
  | liveOnIsolated (sec f channel : Nat) (value : Int) (state : FeederState) (contact : Contact)
  | enteredIsolated (vehicle sec permits det : Nat) (confirmed : Bool)
  | restarted
  | pointState (c : PointStateContent)
  | detectionFault (pt : Nat) (previous : Position)
  | countFault (pt det : Nat) (dir : Dir) (count : Nat)
  | pointMoved (pt : Nat) (old new : Position) (drive : DriveState)
  | pointSet (c : ReservationContent)
  | wrongExit (c : ReservationContent) (leg : Leg)
  | reservationExpired (c : ReservationContent)
  | pointBlocked (pt det vehicle : Nat)
  | pointResult (c : PointResultContent)
  | unidentifiedPass (det : Nat) (dir : Dir) (passTime : Time) (forced : Bool)
  | vehicleMoved (vehicle : Nat) (old new : Option Nat) (det : Nat) (dir : Dir) (contactTime telegramTime : Time)
  | unconfirmedMove (vehicle : Nat) (old new : Option Nat) (det : Nat) (dir : Dir) (telegramTime : Time) (forced : Bool)
  | enteredDead (vehicle sec det : Nat) (confirmed : Bool)
  | vehicleNew (vehicle : Nat) (kind : RxKind)
  | vehicleEvicted (vehicle : Nat) (sec : Option Nat) (heard : Time) (newVehicle : Nat)
  | vehicleTableFull (vehicle : Nat) (kind : RxKind)
  | vehicleLost (vehicle : Nat) (sec : Option Nat) (heard : Time)
  | vehicleFound (vehicle : Nat) (sec : Option Nat) (state : VehicleState)
  | vehicleFault (vehicle : Nat) (code : FaultCode) (detail : Nat) (det : Option Nat) (sec : Option Nat)
      (state : VehicleState) (first : Time)
  | faultCleared (vehicle : Nat) (code : FaultCode) (source : ClearSource) (first last : Time) (sec : Option Nat)
      (state : VehicleState)
  | txOverflow (telegram : TxTelegram)
  | radioDegraded (badRun : Nat) (judgedCase : Nat)
  | radioOverrun (count : Nat) (kind : RxKind) (vehicle : Nat)
  deriving DecidableEq, Repr

/-- A notice with the line time of the event that queued it. -/
structure Notice where
  time : Time
  body : NoticeBody
  deriving DecidableEq, Repr

/-- Request kinds, in the order of their first appearance in the authority table of R182. -/
inductive ReqKind where
  | closeFeeder | openFeeder | resetFeeder | setProtection | writeScan | startScan | stopScan | resumeScan | calibrate
  | setMqThreshold | readMeasurements | readFeeder | readSection | allStop
  | reserve | cancel | cancelVehicle | flushPoint | resetPoint | readPoint | readVehicle | clearFault | retire
  | radioEnable | flushRadio
  | loadNetwork | loadSection | loadFeeder | loadDetector | loadPoint | startRun | restart | isolate | release
  | holdPoint | freePoint | readPermit
  | readStatus | setMask | setLineMode
  deriving DecidableEq, Repr

/-- Reply codes, in the order of R183. -/
inductive ReplyCode where
  | done | accepted | busy | notPermitted | notRunning | wrongState | badArgument | badConfig | held | full | queueFull
  | noSuch | failedState | live | vehicleFault
  deriving DecidableEq, Repr

/-- Item kinds of BAD_CONFIG (R12). -/
inductive ConfigItem where
  | network | feeder | sect | detector | point
  deriving DecidableEq, Repr

/-- Reasons of BAD_CONFIG (R12), each in the place where the table of R12 names it first. (DESIGN CHOICE, log 19) -/
inductive ConfigReason where
  | notLoaded | noSections | noSuchSection | noSuchBus | channelShared | noFeeder | tooManyFeeders | noSection
  | noSuchDetector | notOnBoundary | detectorReused
  deriving DecidableEq, Repr

/-- Line modes of a port (R192). -/
inductive LineMode where
  | level | pulse
  deriving DecidableEq, Repr

/-- PULSE gaps: 10, 5, 2.5 and 1.25 µs (R194). (DESIGN CHOICE, log 38) -/
inductive GapTime where
  | us10 | us5 | us2half | us1quarter
  deriving DecidableEq, Repr

/-- Urgent routing of a port (R193). -/
inductive Routing where
  | own | shared
  deriving DecidableEq, Repr

/-- A PULSE-mode attention line: inactive, inactive for the gap after a read, or pulsing (R192). -/
inductive PulseState where
  | inactive | gap | pulsing
  deriving DecidableEq, Repr

/-- The read frame in progress on a port: none, one that clocks the head out, one that found the queue empty (R180, R185). -/
inductive Reading where
  | none | head | empty
  deriving DecidableEq, Repr

/-- Frame statuses (R180). -/
inductive FrameStatus where
  | taken | queueFull | badFrame | entry | empty
  deriving DecidableEq, Repr

/-- The radio link as READ_STATUS on the traffic port reports it (R179). -/
structure RadioStatus where
  rxEnable : Bool
  txEnable : Bool
  rxAck : Bool
  txAck : Bool
  received : Nat
  toSend : Nat
  sending : Bool
  allStop : Bool
  badRun : Nat
  degradedArmed : Bool
  overrun : Bool
  overrunCount : Nat
  txOverflow : Bool
  deriving DecidableEq, Repr

/-- The part of a READ_STATUS reply that belongs to one port (R191). -/
inductive StatusPart where
  | dispatch (presence : List Presence) (mode : SqMode) (next : Nat) (stopPending : Bool) (cycles : BitVec 16)
      (allStop txAck : Bool)
  | traffic (driveQueue : Nat) (linkHolder : Option Nat) (radio : RadioStatus)
  | works (permits : Nat)
  deriving DecidableEq, Repr

/-- The READ_STATUS reply (R191). -/
structure StatusReport where
  mode : DeviceMode
  time : Time
  entries : Nat
  notices : Nat
  noticeLost : Bool
  summaries : List NoticeKind
  masks : List NoticeKind
  lineMode : LineMode
  gap : GapTime
  routing : Routing
  urgent : Bool
  part : StatusPart
  deriving DecidableEq, Repr

/-- The READ_FEEDER reply (R89). -/
structure FeederReport where
  number : Nat
  feeder : Feeder
  contact : Contact
  stateLeft : Option Nat
  resetLeft : Option Nat
  currentLatest : Option Latest
  busLatest : Option Latest
  lineLatest : Option Latest
  secState : SectionState
  leader : Option Nat
  deriving DecidableEq, Repr

/-- A feeder as READ_SECTION lists it (R107). -/
structure FeederLine where
  f : Nat
  state : FeederState
  cause : Option Cause
  role : RecloseRole
  contact : Contact
  liveArmed : Bool
  deriving DecidableEq, Repr

/-- The bound monitor as READ_SECTION reports it (R107). -/
structure MonitorLine where
  entry : Nat
  crossing : Option CrossDir
  latest : Option Latest
  deriving DecidableEq, Repr

/-- A point as READ_SECTION lists it (R107). -/
structure PointLine where
  pt : Nat
  position : Position
  drive : DriveState
  deriving DecidableEq, Repr

/-- The READ_SECTION reply (R107). -/
structure SectionReport where
  record : SectionRec
  powered : Bool
  feeders : List FeederLine
  permits : List Nat
  monitor : Option MonitorLine
  points : List PointLine
  deriving DecidableEq, Repr

/-- A feeder as READ_PERMIT lists it (R103). -/
structure PermitFeeder where
  f : Nat
  state : FeederState
  contact : Contact
  deriving DecidableEq, Repr

/-- A section as READ_PERMIT lists it (R103). -/
structure PermitSection where
  sec : Nat
  state : SectionState
  permits : Nat
  feeders : List PermitFeeder
  deriving DecidableEq, Repr

/-- The READ_POINT reply (R127, R129). -/
structure PointReport where
  point : Point
  leftContact : Contact
  rightContact : Contact
  position : Position
  secState : SectionState
  powered : Bool
  holdLeft : Option Nat
  tPointLeft : Option Nat
  queuePlace : Option Nat
  deriving DecidableEq, Repr

/-- The READ_VEHICLE reply for one vehicle (R157). -/
structure VehicleReport where
  vehicle : Vehicle
  state : VehicleState
  silenceLeft : Option Nat
  waiting : Nat
  deriving DecidableEq, Repr

/-- A vehicle as READ_VEHICLE of 0 lists it (R157). -/
structure VehicleLine where
  id : Nat
  state : VehicleState
  sec : Option Nat
  unconfirmed : Bool
  deriving DecidableEq, Repr

/-- The result a reply carries (R183). -/
inductive ReplyResult where
  | none
  | badConfig (item : ConfigItem) (number : Option Nat) (reason : ConfigReason) (other : Option Nat)
  | count (n : Nat)
  | status (r : StatusReport)
  | measurements (records : List MeasRecord) (more overflow : Bool)
  | feeder (r : FeederReport)
  | sect (r : SectionReport)
  | permit (p : Permit) (secs : List PermitSection)
  | permits (ps : List Permit)
  | point (r : PointReport)
  | vehicle (r : VehicleReport)
  | vehicles (vs : List VehicleLine) (passes : List PassEntry)
  deriving DecidableEq, Repr

/-- A reply (R183). `kind` is the code of the request kind answered. -/
structure Reply where
  tag : Nat
  kind : Nat
  code : ReplyCode
  clamped : Bool
  result : ReplyResult
  deriving DecidableEq, Repr

/-- An entry of a Reply Queue (R185). -/
inductive Entry where
  | reply (r : Reply)
  | notice (n : Notice)
  deriving DecidableEq, Repr

/-- One master port (R180 to R195). `status` is the frame status last clocked out and `out` what the last read frame
clocked out before it. -/
structure PortState where
  queue : List Entry
  masks : List NoticeKind
  summaries : List NoticeKind
  noticeLost : Bool
  lineMode : LineMode
  gap : GapTime
  routing : Routing
  pulse : PulseState
  reading : Reading
  status : Option FrameStatus
  out : List Byte
  deriving DecidableEq, Repr

/-- Port Controller: the three ports. -/
structure Po where
  dispatch : PortState
  traffic : PortState
  works : PortState
  deriving DecidableEq, Repr

/-! ## The whole machine -/

/-- The records the blocks own and write in RUN. An absent object's slot is empty (R5). -/
structure Blocks where
  clc : Clc
  sq : Sq
  mq : Mq
  feeders : Vector (Option Feeder) 16
  sections : Vector (Option SectionRec) 24
  permits : List Permit
  points : Vector (Option Point) 16
  dlc : Dlc
  passes : List PassEntry
  vt : Vt
  rlc : Rlc
  po : Po
  deriving DecidableEq, Repr

/-- The machine: the commands that wait (first in, first out), the device state, the line time, the network description,
the derived lists, the inputs, and the blocks. -/
structure State where
  pending : List Instr
  mode : DeviceMode
  time : Time
  net : NetTables
  derived : Derived
  pins : Pins
  blocks : Blocks
  deriving DecidableEq, Repr

/-- No command of this part makes it stop with a fault: every rule gives an effect. The type has no constructor. -/
inductive Fault
  deriving DecidableEq, Repr

/-- Why a command has no meaning. -/
inductive Refusal where
  /-- Raised by `exec` for a command whose meaning is not written: safe, since the machine stops. No arm uses it. -/
  | notModelled (mnemonic : String)
  deriving DecidableEq, Repr

/-! ## Reset (R15, R17) -/

/-- A port after either reset (R15, R195). -/
def PortState.initial : PortState where
  queue := []
  masks := []
  summaries := []
  noticeLost := false
  lineMode := .level
  gap := .us10
  routing := .own
  pulse := .inactive
  reading := .none
  status := none
  out := []

/-- The blocks right after a reset at line time `now` (R15): the two links rest from that moment (R16). (DESIGN CHOICE, log
2) -/
def Blocks.initial (now : Time) : Blocks where
  clc :=
    { inFlight := none, presence := Vector.replicate 6 .present, rest := some ⟨now, Config.converterExpiryMs⟩ }
  sq :=
    { slots := Vector.replicate 48 none, length := 0, mode := .stopped, next := 0, stopPending := false, cycles := 0,
      settle := none, inserts := [], serving := false, waiting := [], latest := Vector.replicate 48 none }
  mq := { records := [], threshold := 1, overflow := false, armed := true }
  feeders := Vector.replicate 16 none
  sections := Vector.replicate 24 none
  permits := []
  points := Vector.replicate 16 none
  dlc := { queue := [], link := none, rest := some ⟨now, Config.driveExpiryMs⟩ }
  passes := []
  vt := { vehicles := [], fullArmed := true }
  rlc :=
    { rxEnable := false, rxAck := false, txEnable := false, txAck := false, inGap := true, lastByte := now,
      assembling := none, rxQueue := [], overrun := false, overrunCount := 0, badRun := 0, degradedArmed := true,
      txQueue := [], txOverflow := false, allStop := false, sending := none, gapAfterSend := none }
  po := { dispatch := PortState.initial, traffic := PortState.initial, works := PortState.initial }

/-- The five tables, empty (R4). -/
def NetTables.empty : NetTables where
  network := none
  sections := Vector.replicate 24 none
  feeders := Vector.replicate 16 none
  detectors := Vector.replicate 48 none
  points := Vector.replicate 16 none

/-- The derived lists, empty (R13). -/
def Derived.empty : Derived where
  feedersOf := Vector.replicate 24 []
  partner := Vector.replicate 16 none
  busFeeders := Vector.replicate 4 []
  boundary := Vector.replicate 24 []
  pointsOf := Vector.replicate 24 []
  roles := Vector.replicate 48 none

/-- The inputs before any report: DESIGN CHOICE (log 1), every contact open. -/
def Pins.unreported : Pins where
  aux := Vector.replicate 16 .opened
  leftDetection := Vector.replicate 16 .opened
  rightDetection := Vector.replicate 16 .opened
  detA := Vector.replicate 48 none
  detB := Vector.replicate 48 none

/-- The machine right after the power-on reset (R17): CONFIG, line time 0, every table and queue empty. -/
def State.reset : State where
  pending := []
  mode := .config
  time := 0
  net := NetTables.empty
  derived := Derived.empty
  pins := Pins.unreported
  blocks := Blocks.initial 0

end Sys2Proof.Machine
end

