-- ==== Sys2Proof/Machine/Ops.lean ====
section
/-! DEFINITION. The shared operations: line time and timers (R18), the slots of a table, what an event reads besides the
blocks (`Env`), the placing of notices and replies (R183 to R188), and the taking of a request (R181, R182). -/

namespace Sys2Proof.Machine

open Sys2Proof

/-! ## Line time and timers (R18) -/

/-- The line time from `start` to `now`, modulo 2^32 (R18). -/
def elapsed (now start : Time) : Nat := (now - start).toNat

/-- A timer has expired once the elapsed time is at or above its setting (R18). -/
def Timer.due (t : Timer) (now : Time) : Bool := decide (t.setting ≤ elapsed now t.start)

/-- What a running timer has left, in ms. -/
def Timer.left (t : Timer) (now : Time) : Nat := t.setting - elapsed now t.start

/-- A running timer that has expired; a stopped one has not. (DESIGN CHOICE, log 4) -/
def timerDue (t : Option Timer) (now : Time) : Bool :=
  match t with
  | none => false
  | some t => t.due now

/-- The remaining time of a running timer. -/
def timerLeft (t : Option Timer) (now : Time) : Option Nat := t.map (·.left now)

/-- A timer once it has run out is stopped. -/
def stopIfDue (t : Option Timer) (now : Time) : Option Timer := if timerDue t now then none else t

/-! ## Tables -/

/-- The record in slot `i` of a table; a slot out of range is absent. -/
def look {α : Type} {n : Nat} (t : Vector (Option α) n) (i : Nat) : Option α := t[i]?.join

/-- The table with `x` in slot `i`; a slot out of range is not written. -/
def put {α : Type} {n : Nat} (t : Vector (Option α) n) (i : Nat) (x : α) : Vector (Option α) n :=
  t.setIfInBounds i (some x)

/-- The table with the record of slot `i` changed by `g`; an absent slot stays absent. -/
def amend {α : Type} {n : Nat} (t : Vector (Option α) n) (i : Nat) (g : α → α) : Vector (Option α) n :=
  match look t i with
  | none => t
  | some x => put t i (g x)

/-- The numbers of the slots that hold a record, ascending. -/
def held {α : Type} {n : Nat} (t : Vector (Option α) n) : List Nat :=
  (List.range n).filter fun i => (look t i).isSome

/-! ## What an event reads besides the blocks -/

/-- The line time, the network description, the derived lists and the inputs: what a step of RUN reads and does not write. -/
structure Env where
  time : Time
  net : NetTables
  derived : Derived
  pins : Pins

/-- What the part reads of the network record while none is loaded: only in CONFIG, where nothing acts on it. -/
def NetRecord.unloaded : NetRecord where
  busCount := 0
  tMatch := 0
  tSilence := 0
  tPoint := 0
  tHold := 0
  radioGroup := 0
  leakage := .notify

/-- The network record (R6). -/
def Env.network (e : Env) : NetRecord := e.net.network.getD NetRecord.unloaded

/-- A section's feeders, ascending (R13). -/
def Env.feedersOf (e : Env) (sec : Nat) : List Nat := e.derived.feedersOf[sec]?.getD []

/-- The other feeder of a two-fed section (R13). -/
def Env.partner (e : Env) (f : Nat) : Option Nat := e.derived.partner[f]?.join

/-- A bus's feeders, ascending (R13). -/
def Env.busFeeders (e : Env) (bus : Nat) : List Nat := e.derived.busFeeders[bus]?.getD []

/-- A section's points, ascending (R13). -/
def Env.pointsOf (e : Env) (sec : Nat) : List Nat := e.derived.pointsOf[sec]?.getD []

/-- A detector's point and role (R13). -/
def Env.roleOf (e : Env) (det : Nat) : Option (Nat × DetectorRole) := look e.derived.roles det

/-- The auxiliary contact of a feeder's breaker as last reported (R64). -/
def Env.aux (e : Env) (f : Nat) : Contact := e.pins.aux[f]?.getD .opened

/-- A point's left detection contact as last reported (R108). -/
def Env.leftContact (e : Env) (pt : Nat) : Contact := e.pins.leftDetection[pt]?.getD .opened

/-- A point's right detection contact as last reported (R108). -/
def Env.rightContact (e : Env) (pt : Nat) : Contact := e.pins.rightDetection[pt]?.getD .opened

/-- What an event at state `s` reads. -/
def State.env (s : State) : Env where
  time := s.time
  net := s.net
  derived := s.derived
  pins := s.pins

/-- The state after an event of the blocks. -/
def State.onBlocks (f : Env → Blocks → Blocks) (s : State) : State := { s with blocks := f s.env s.blocks }

/-- An event that only RUN acts on; in CONFIG it is discarded (R1, R3). -/
def State.inRun (f : Env → Blocks → Blocks) (s : State) : State :=
  match s.mode with
  | .config => s
  | .run => s.onBlocks f

/-- What an answer of the converter link or of the drive link does: a late one, to a transaction that has ended already, is
discarded (R19, R132). (DESIGN CHOICE, log 39) -/
def unlessLate (late : Bool) (f : Env → Blocks → Blocks) (e : Env) (b : Blocks) : Blocks := if late then b else f e b

/-! ## Records of the blocks -/

def Blocks.feeder? (b : Blocks) (f : Nat) : Option Feeder := look b.feeders f
def Blocks.section? (b : Blocks) (sec : Nat) : Option SectionRec := look b.sections sec
def Blocks.point? (b : Blocks) (pt : Nat) : Option Point := look b.points pt

def Blocks.setFeeder (b : Blocks) (f : Nat) (x : Feeder) : Blocks := { b with feeders := put b.feeders f x }
def Blocks.setSection (b : Blocks) (sec : Nat) (x : SectionRec) : Blocks := { b with sections := put b.sections sec x }
def Blocks.setPoint (b : Blocks) (pt : Nat) (x : Point) : Blocks := { b with points := put b.points pt x }

def Blocks.amendFeeder (b : Blocks) (f : Nat) (g : Feeder → Feeder) : Blocks :=
  { b with feeders := amend b.feeders f g }
def Blocks.amendSection (b : Blocks) (sec : Nat) (g : SectionRec → SectionRec) : Blocks :=
  { b with sections := amend b.sections sec g }
def Blocks.amendPoint (b : Blocks) (pt : Nat) (g : Point → Point) : Blocks := { b with points := amend b.points pt g }

/-! ## Ports -/

def Po.port (po : Po) : Port → PortState
  | .dispatch => po.dispatch
  | .traffic => po.traffic
  | .works => po.works

def Po.setPort (po : Po) (p : Port) (ps : PortState) : Po :=
  match p with
  | .dispatch => { po with dispatch := ps }
  | .traffic => { po with traffic := ps }
  | .works => { po with works := ps }

def State.port (s : State) (p : Port) : PortState := s.blocks.po.port p

def State.setPort (p : Port) (ps : PortState) (s : State) : State :=
  { s with blocks := { s.blocks with po := s.blocks.po.setPort p ps } }

def State.amendPort (p : Port) (g : PortState → PortState) (s : State) : State := s.setPort p (g (s.port p))

/-! ## Notices: kind, subject, class, routing (the notice catalogue) -/

def NoticeBody.kind : NoticeBody → NoticeKind
  | .converterFault .. => .converterFault
  | .scanPaused .. => .scanPaused
  | .limitCrossed .. => .limitCrossed
  | .limitCleared .. => .limitCleared
  | .calDone .. => .calDone
  | .calFailed .. => .calFailed
  | .measReady .. => .measReady
  | .thermalAlarm .. => .thermalAlarm
  | .precheckResult .. => .lineTestResult
  | .testResult .. => .lineTestResult
  | .externalClose .. => .externalClose
  | .protectionDegraded .. => .protectionDegraded
  | .trip .. => .trip
  | .breakerFail .. => .breakerFail
  | .feederState .. => .feederState
  | .closedWhileHeld .. => .closedWhileHeld
  | .sectionState .. => .sectionState
  | .permitState .. => .permitState
  | .liveOnIsolated .. => .liveOnIsolated
  | .enteredIsolated .. => .enteredIsolated
  | .restarted => .restarted
  | .pointState .. => .pointState
  | .detectionFault .. => .detectionFault
  | .countFault .. => .countFault
  | .pointMoved .. => .pointMoved
  | .pointSet .. => .pointSet
  | .wrongExit .. => .wrongExit
  | .reservationExpired .. => .reservationExpired
  | .pointBlocked .. => .pointBlocked
  | .pointResult .. => .pointResult
  | .unidentifiedPass .. => .unidentifiedPass
  | .vehicleMoved .. => .vehicleMoved
  | .unconfirmedMove .. => .unconfirmedMove
  | .enteredDead .. => .enteredDead
  | .vehicleNew .. => .vehicleNew
  | .vehicleEvicted .. => .vehicleEvicted
  | .vehicleTableFull .. => .vehicleTableFull
  | .vehicleLost .. => .vehicleLost
  | .vehicleFound .. => .vehicleFound
  | .vehicleFault .. => .vehicleFault
  | .faultCleared .. => .faultCleared
  | .txOverflow .. => .txOverflow
  | .radioDegraded .. => .radioDegraded
  | .radioOverrun .. => .radioOverrun

/-- The subject byte: the converter, feeder, section or point of a coalescible kind, 255 otherwise. -/
def NoticeBody.subject : NoticeBody → Nat
  | .converterFault c _ => c
  | .feederState f .. => f
  | .sectionState sec .. => sec
  | .pointState c => c.pt
  | _ => 255

/-- The coalescible kinds of the catalogue (R187). -/
def NoticeKind.coalescible : NoticeKind → Bool
  | .converterFault | .measReady | .feederState | .sectionState | .pointState | .radioDegraded | .radioOverrun => true
  | _ => false

/-- The urgent class (R193). -/
def NoticeBody.urgent : NoticeBody → Bool
  | .trip .. | .breakerFail .. | .protectionDegraded .. | .liveOnIsolated .. | .closedWhileHeld .. => true
  | .vehicleFault _ code .. => decide (code = .leakage)
  | _ => false

/-- The ports a kind is queued on, in the order of the catalogue. -/
def NoticeKind.ports : NoticeKind → List Port
  | .converterFault | .scanPaused | .limitCrossed | .limitCleared | .calDone | .calFailed | .measReady | .thermalAlarm
  | .lineTestResult | .externalClose | .protectionDegraded | .trip | .breakerFail | .feederState => [.dispatch]
  | .closedWhileHeld => [.dispatch, .works]
  | .sectionState | .enteredIsolated => [.dispatch, .traffic, .works]
  | .permitState | .liveOnIsolated => [.works, .dispatch]
  | .restarted => [.dispatch, .traffic]
  | .pointState | .detectionFault | .countFault | .pointMoved | .pointSet | .wrongExit | .reservationExpired
  | .pointBlocked | .pointResult | .unidentifiedPass | .vehicleMoved | .unconfirmedMove | .enteredDead | .vehicleNew
  | .vehicleEvicted | .vehicleTableFull | .vehicleLost | .vehicleFound | .vehicleFault | .faultCleared | .txOverflow
  | .radioDegraded | .radioOverrun => [.traffic]

/-- The kinds that cannot be masked (R189). -/
def NoticeKind.maskable : NoticeKind → Bool
  | .trip | .breakerFail | .protectionDegraded | .liveOnIsolated | .closedWhileHeld | .restarted => false
  | _ => true

/-- Every notice kind, in the order of the catalogue. -/
def NoticeKind.all : List NoticeKind :=
  [.converterFault, .scanPaused, .limitCrossed, .limitCleared, .calDone, .calFailed, .measReady, .thermalAlarm,
   .lineTestResult, .externalClose, .protectionDegraded, .trip, .breakerFail, .feederState, .closedWhileHeld,
   .sectionState, .permitState, .liveOnIsolated, .enteredIsolated, .restarted, .pointState] ++
  [.detectionFault, .countFault, .pointMoved, .pointSet, .wrongExit, .reservationExpired, .pointBlocked, .pointResult,
   .unidentifiedPass, .vehicleMoved, .unconfirmedMove, .enteredDead, .vehicleNew, .vehicleEvicted, .vehicleTableFull,
   .vehicleLost, .vehicleFound, .vehicleFault, .faultCleared, .txOverflow, .radioDegraded, .radioOverrun]

/-- A set of notice kinds, kept in the order of the catalogue. -/
def kindSet (ks : List NoticeKind) : List NoticeKind := NoticeKind.all.filter fun k => decide (k ∈ ks)

/-! ## The Reply Queue (R185 to R188, R192) -/

def Entry.isNotice : Entry → Bool
  | .reply _ => false
  | .notice _ => true

/-- The notices of a queue. -/
def noticeCount (q : List Entry) : Nat := (q.filter Entry.isNotice).length

/-- An attention entry: every entry but the urgent notices routed to the urgent line (R192, R193). -/
def isAttention (r : Routing) : Entry → Bool
  | .reply _ => true
  | .notice n => !(n.body.urgent && decide (r = .shared))

def PortState.hasAttention (ps : PortState) : Bool := ps.queue.any (isAttention ps.routing)

/-- Appends an entry. In PULSE mode an attention entry that finds no attention entry gives a pulse, except during the gap
after a read, whose own pulse stands for it (R192). -/
def PortState.append (e : Entry) (ps : PortState) : PortState :=
  { ps with
    queue := ps.queue ++ [e]
    pulse :=
      if ps.lineMode = .pulse ∧ ps.hasAttention = false ∧ isAttention ps.routing e = true ∧ ps.pulse ≠ .gap then .pulsing
      else ps.pulse }

/-- The same coalescible kind and subject (R187). -/
def coalesces (n : Notice) : Entry → Bool
  | .reply _ => false
  | .notice m =>
    n.body.kind.coalescible && decide (m.body.kind = n.body.kind) && decide (m.body.subject = n.body.subject)

/-- The queue with its replacement target replaced in place, if it holds one (R187). -/
def replaceFirst (n : Notice) : List Entry → Option (List Entry)
  | [] => none
  | e :: q => if coalesces n e then some (.notice n :: q) else (replaceFirst n q).map (e :: ·)

/-- As `replaceFirst`, but the head is no target while a read frame clocks it out (R187). -/
def replaceTarget (reading : Reading) (n : Notice) (q : List Entry) : Option (List Entry) :=
  match reading, q with
  | .head, e :: q => (replaceFirst n q).map (e :: ·)
  | _, q => replaceFirst n q

/-- The notice's kind is masked here; a VEHICLE_FAULT for LEAKAGE never is (R189). -/
def PortState.masks? (ps : PortState) (n : NoticeBody) : Bool := decide (n.kind ∈ ps.masks) && !n.urgent

/-- A notice handed to one port: masked, coalesced, appended or lost (R186). -/
def PortState.place (n : Notice) (ps : PortState) : PortState :=
  if ps.masks? n.body then { ps with summaries := kindSet (n.body.kind :: ps.summaries) }
  else
    match replaceTarget ps.reading n ps.queue with
    | some q => { ps with queue := q }
    | none =>
      if noticeCount ps.queue < Config.noticeMax ∧ ps.queue.length < Config.replyQueueMax then ps.append (.notice n)
      else { ps with noticeLost := true }

/-- A notice placed on each of `ps`, in turn (R186). -/
def Po.placeOn (n : Notice) (ports : List Port) (po : Po) : Po :=
  ports.foldl (fun po p => po.setPort p ((po.port p).place n)) po

/-- A block hands PO a notice of the event at hand (R186). -/
def say (e : Env) (n : NoticeBody) (b : Blocks) : Blocks :=
  { b with po := b.po.placeOn ⟨e.time, n⟩ n.kind.ports }

/-- Several notices, in order. -/
def sayAll (e : Env) (ns : List NoticeBody) (b : Blocks) : Blocks := ns.foldl (fun b n => say e n b) b

/-! ## Taking a request (R181 to R183) -/

/-- How a request's own checks answer it: the reply, what is done before the reply is placed (only SET_LINE_MODE and
RESTART do anything there) and what is done after it. -/
structure Answer where
  code : ReplyCode
  clamped : Bool := false
  result : ReplyResult := .none
  before : State → State := id
  after : State → State := id

def refuse (c : ReplyCode) : Answer := { code := c }

/-- The authority table (R182). -/
def permits (p : Port) : ReqKind → Bool
  | .closeFeeder | .openFeeder | .resetFeeder | .setProtection | .writeScan | .startScan | .stopScan | .resumeScan
  | .calibrate | .setMqThreshold | .readMeasurements | .readFeeder => decide (p = .dispatch)
  | .allStop => decide (p = .dispatch ∨ p = .traffic)
  | .reserve | .cancel | .cancelVehicle | .flushPoint | .resetPoint | .readPoint | .readVehicle | .clearFault | .retire
  | .radioEnable | .flushRadio => decide (p = .traffic)
  | .loadNetwork | .loadSection | .loadFeeder | .loadDetector | .loadPoint | .startRun | .restart | .isolate | .release
  | .holdPoint | .freePoint | .readPermit => decide (p = .works)
  | .readSection | .readStatus | .setMask | .setLineMode => true

/-- The code of a request kind, 1 for the first of the authority table (R182). -/
def ReqKind.code : ReqKind → Nat
  | .closeFeeder => 1 | .openFeeder => 2 | .resetFeeder => 3 | .setProtection => 4 | .writeScan => 5 | .startScan => 6
  | .stopScan => 7 | .resumeScan => 8 | .calibrate => 9 | .setMqThreshold => 10 | .readMeasurements => 11
  | .readFeeder => 12 | .readSection => 13 | .allStop => 14 | .reserve => 15 | .cancel => 16 | .cancelVehicle => 17
  | .flushPoint => 18 | .resetPoint => 19 | .readPoint => 20 | .readVehicle => 21 | .clearFault => 22 | .retire => 23
  | .radioEnable => 24 | .flushRadio => 25 | .loadNetwork => 26 | .loadSection => 27 | .loadFeeder => 28
  | .loadDetector => 29 | .loadPoint => 30 | .startRun => 31 | .restart => 32 | .isolate => 33 | .release => 34
  | .holdPoint => 35 | .freePoint => 36 | .readPermit => 37 | .readStatus => 38 | .setMask => 39 | .setLineMode => 40

/-- What the device state refuses: loads and START_RUN in RUN, and in CONFIG all but those, RESTART and the three requests
that every port takes in either state (R1, R2). -/
def stateRefusal (m : DeviceMode) (k : ReqKind) : Option ReplyCode :=
  match k, m with
  | .loadNetwork, .run | .loadSection, .run | .loadFeeder, .run | .loadDetector, .run | .loadPoint, .run
  | .startRun, .run => some .wrongState
  | .loadNetwork, .config | .loadSection, .config | .loadFeeder, .config | .loadDetector, .config | .loadPoint, .config
  | .startRun, .config => none
  | .restart, _ | .readStatus, _ | .setMask, _ | .setLineMode, _ => none
  | _, .config => some .notRunning
  | _, .run => none

/-- Checks 4 to 6 of R181: authority, device state, the request's own checks. -/
def judge (p : Port) (k : ReqKind) (own : State → Answer) (s : State) : Answer :=
  if permits p k then
    match stateRefusal s.mode k with
    | some c => refuse c
    | none => own s
  else refuse .notPermitted

/-- Places the reply as the first entry that the request's event puts on its port (R183). -/
def State.placeReply (p : Port) (r : Reply) (s : State) : State := s.amendPort p (PortState.append (.reply r))

/-- A correct request frame of a known kind, from check 2 of R181 on. A full Reply Queue leaves only the frame status. -/
def takeRequest (p : Port) (tag : Nat) (k : ReqKind) (own : State → Answer) (s : State) : State :=
  if Config.replyQueueMax ≤ (s.port p).queue.length then
    s.amendPort p fun ps => { ps with status := some .queueFull }
  else
    let a := judge p k own s
    let r : Reply := { tag := tag, kind := k.code, code := a.code, clamped := a.clamped, result := a.result }
    a.after (((a.before s).amendPort p fun ps => { ps with status := some .taken }).placeReply p r)

/-! ## Naming an object of RUN (R5) -/

/-- An identifier of `n` slots: out of range BAD_ARGUMENT, absent at START_RUN NO_SUCH (R5). -/
def naming {α : Type} {n : Nat} (t : Vector (Option α) n) (i : Nat) (k : α → Answer) : Answer :=
  if i < n then
    match look t i with
    | none => refuse .noSuch
    | some x => k x
  else refuse .badArgument

/-- An answer whose effect is an event of the blocks. -/
def effect (code : ReplyCode) (f : Env → Blocks → Blocks) (result : ReplyResult := .none) : Answer :=
  { code := code, result := result, after := State.onBlocks f }

end Sys2Proof.Machine
end

