-- ==== Sys2Proof/Machine/Arithmetic.lean ====
section
/-! DEFINITION. The integer arithmetic of measurement and protection: sample classes (R41), window monitors (R32), offset
calibration (R36), the thermal model (R47), the trip criteria (R49 to R53), and the line test (R59 to R62). Division by a
positive number rounds toward minus infinity. -/

namespace Sys2Proof.Machine

open Sys2Proof

/-- The class and value of a converter result, by the first line of R41's table that applies. -/
def classify (isCurrent : Bool) (offset : Int) (valid : Bool) (r : Int) : Sample :=
  if valid = false then ⟨.invalid, 0⟩
  else if r = 32767 then ⟨.over, Config.valueMax⟩
  else if r = -32768 then ⟨.under, if isCurrent then -Config.valueMax else 0⟩
  else if isCurrent then
    if Config.valueMax < r - offset then ⟨.over, Config.valueMax⟩
    else if r - offset < -Config.valueMax then ⟨.under, -Config.valueMax⟩
    else ⟨.normal, r - offset⟩
  else if r < 0 then ⟨.normal, 0⟩
  else if Config.valueMax < r then ⟨.over, Config.valueMax⟩
  else ⟨.normal, r⟩

/-- The limit state of an entry after a sample of value `v`, by R32's table: absent is INSIDE. -/
def monitorStep (en : ScanEntry) (v : Int) : Option CrossDir :=
  match en.mode, en.crossing with
  | .none, _ => none
  | .above, none => if en.limit1 < v then some .high else none
  | .above, some d => if v ≤ en.limit1 - en.hysteresis then none else some d
  | .below, none => if v < en.limit1 then some .low else none
  | .below, some d => if en.limit1 + en.hysteresis ≤ v then none else some d
  | .outside, none => if v < en.limit1 then some .low else if en.limit2 < v then some .high else none
  | .outside, some d =>
    if en.limit1 + en.hysteresis ≤ v ∧ v ≤ en.limit2 - en.hysteresis then none else some d

/-! ## Calibration (R36) -/

/-- A converter's saturation codes. -/
def saturated (r : Int) : Bool := decide (r = 32767 ∨ r = -32768)

/-- Why a calibration fails, the first of INVALID, SATURATED and LIVE. -/
def calFailure (rs : List KeptResult) : Option CalReason :=
  if rs.any fun x => !x.valid then some .invalid
  else if rs.any fun x => saturated x.code then some .saturated
  else if rs.any fun x => x.live then some .live
  else none

/-- The new offset: the sum of the raw codes divided by 8, clamped to -512 … +511. -/
def calOffset (rs : List KeptResult) : Int := max (-512) (min 511 ((rs.map (·.code)).sum / 8))

/-! ## Thermal model (R47) -/

/-- S = floor(I² / 4096). -/
def heating (i : Int) : Int := i * i / 4096

/-- θ after a sample of value `i`: θ + floor((S − θ) / 2^k). -/
def thermalStep (k : Nat) (theta i : Int) : Int := theta + (heating i - theta) / 2 ^ k

/-! ## Criteria of a sample -/

/-- INST: class OVER, or a value at or above I_inst (R50). -/
def meetsInst (x : Settings) (s : Sample) : Bool := decide (s.cls = .over ∨ x.iInst ≤ s.value)

/-- REVERSE: with I_rev not 0, class UNDER, or a value at or below −I_rev (R51). -/
def meetsReverse (x : Settings) (s : Sample) : Bool :=
  decide (x.iRev ≠ 0 ∧ (s.cls = .under ∨ s.value ≤ -x.iRev))

/-- THERMAL: θ at or above θ_trip (R49). -/
def meetsThermal (x : Settings) (theta : Int) : Bool := decide (x.thetaTrip ≤ theta)

/-- A push into the history ring, which keeps the newest sixteen (R46). -/
def pushRing (ring : List RingEntry) (r : RingEntry) : List RingEntry :=
  (ring ++ [r]).drop ((ring ++ [r]).length - Config.ringMax)

/-- The entry `w` places before the newest, when the ring holds more than `w` (R52). -/
def ringBack (ring : List RingEntry) (w : Nat) : Option RingEntry := ring.reverse[w]?

/-- The arming test of a DISARMED step on a sample already pushed (R52). -/
def armStep (x : Settings) (ring : List RingEntry) (now : Time) (i : Int) : Option StepArm :=
  match ringBack ring x.w with
  | none => none
  | some old =>
    if x.dIset ≤ i - old.value then
      some { base := old.value, holdLevel := old.value + x.dIset / 2, armTime := now }
    else none

/-- The step criterion of a sample in CLOSED: the new step state, and whether STEP is met (R52, R53). -/
def stepCriterion (x : Settings) (ring : List RingEntry) (step : Option StepArm) (now : Time) (i : Int) :
    Option StepArm × Bool :=
  match step with
  | none => (armStep x ring now i, false)
  | some a =>
    if i < a.holdLevel then (none, false) else (some a, decide (x.tStep ≤ elapsed now a.armTime))

/-! ## Line test -/

/-- The class of several samples: INVALID if any is, else OVER (for OVER or UNDER) if any is, else NORMAL (R59, R60). -/
def jointClass (ss : List Sample) : SampleClass :=
  if ss.any fun x => decide (x.cls = .invalid) then .invalid
  else if ss.any fun x => decide (x.cls ≠ .normal) then .over
  else .normal

/-- The average of `n` values, rounded down. -/
def average (ss : List Sample) : Int := (ss.map (·.value)).sum / ss.length

/-- The result of a precheck, with V̄ for class NORMAL (R59). -/
def precheckOf (vBf : Int) (line : List Sample) : PrecheckResult × Option Int :=
  if jointClass line = .normal then
    (if vBf ≤ average line then .backfed else .passed, some (average line))
  else (.invalid, none)

/-- The class and resistance of a test whose averages are both NORMAL (R61). -/
def testOf (rT u v : Int) : TestClass × Int :=
  if v < 50 then (.short, 0)
  else if u - v ≤ 0 then (.opened, 65535)
  else (.normal, min 65535 (rT * v / (u - v)))

/-- R_eff = floor(R_min / 2^m), m the occupancy count but at most 3 (R62). -/
def effectiveR (rMin : Int) (occupancy : Nat) : Int := rMin / 2 ^ (min 3 occupancy)

/-- The class and resistance of a test from its bus and line samples (R60, R61). -/
def testClassOf (rT : Int) (bus line : List Sample) : TestClass × Int :=
  if jointClass bus = .normal ∧ jointClass line = .normal then testOf rT (average bus) (average line)
  else (.invalid, 0)

/-- The outcome of a test (R62). -/
def outcomeOf (cls : TestClass) (r rEff : Int) : TestOutcome :=
  match cls with
  | .opened => .healthy
  | .normal => if rEff ≤ r then .healthy else .faulty
  | .short => .faulty
  | .invalid => .invalid

/-- The samples at the even places of a list: the bus samples of a test's pairs (R60). -/
def evens {α : Type} : List α → List α
  | [] => []
  | [x] => [x]
  | x :: _ :: rest => x :: evens rest

/-- The samples at the odd places of a list: the line samples of a test's pairs (R60). -/
def odds {α : Type} (l : List α) : List α := evens l.tail

end Sys2Proof.Machine
end

