-- ==== Sys2Proof/Machine/Flags.lean ====
section
/-! DEFINITION. What is read from the records rather than stored: the lines of the ports (R192, R193), the powered value
(R90), the position of a point (R109), the vehicle state (R148), and the outputs a feeder state drives (R65). -/

namespace Sys2Proof.Machine

open Sys2Proof

/-- A port's attention line (R192). -/
def PortState.attention (ps : PortState) : Bool :=
  match ps.lineMode with
  | .level => ps.hasAttention
  | .pulse => decide (ps.pulse = .pulsing)

/-- The port holds an urgent notice that it routes to the urgent line (R193). -/
def PortState.drivesUrgent (ps : PortState) : Bool :=
  match ps.routing with
  | .own => false
  | .shared => ps.queue.any fun
    | .reply _ => false
    | .notice n => n.body.urgent

/-- The urgent line that the three ports share (R193). -/
def Po.urgent (po : Po) : Bool := po.dispatch.drivesUrgent || po.traffic.drivesUrgent || po.works.drivesUrgent

/-- A section is powered when it is ENERGISED and LOW_VOLTAGE is clear (R90). -/
def SectionRec.powered (x : SectionRec) : Bool := decide (x.state = .energised) && !x.lowVoltage

/-- The powered value of a section. -/
def Blocks.powered (b : Blocks) (sec : Nat) : Bool :=
  match b.section? sec with
  | none => false
  | some x => x.powered

/-- A section's state; an absent section reads DEAD. -/
def Blocks.secState (b : Blocks) (sec : Nat) : SectionState :=
  match b.section? sec with
  | none => .dead
  | some x => x.state

/-- A section's inhibit count. -/
def Blocks.inhibit (b : Blocks) (sec : Nat) : Nat :=
  match b.section? sec with
  | none => 0
  | some x => x.inhibit

/-- A section's leader field. -/
def Blocks.leader (b : Blocks) (sec : Nat) : Option Nat :=
  match b.section? sec with
  | none => none
  | some x => x.leader

/-- A section is covered while a permit names it (R83). -/
def Blocks.covered (b : Blocks) (sec : Nat) : Bool :=
  match b.section? sec with
  | none => false
  | some x => decide (0 < x.permits)

/-- A position from the two detection contacts and the drive state (R109). -/
def positionFrom (left right : Contact) (d : DriveState) : Position :=
  match left, right with
  | .closed, .opened => .left
  | .opened, .closed => .right
  | .opened, .opened => if d = .sending ∨ d = .moving then .moving else .unknown
  | .closed, .closed => .unknown

/-- The position of a point as its contacts last reported (R109). -/
def Env.position (e : Env) (pt : Nat) (d : DriveState) : Position := positionFrom (e.leftContact pt) (e.rightContact pt) d

/-- The position that stands for a leg. -/
def legPosition : Leg → Position
  | .left => .left
  | .right => .right

/-- A drive is in progress while the drive state is QUEUED, SENDING or MOVING (R108). -/
def DriveState.inProgress : DriveState → Bool
  | .queued | .sending | .moving => true
  | _ => false

/-- A vehicle's state (R148). -/
def Vehicle.state (v : Vehicle) : VehicleState :=
  if v.lost then .lost else if v.faults = [] then .active else .faulted

/-- An inhibiting fault is DEWIRE or LEAKAGE (R154). -/
def FaultCode.inhibiting : FaultCode → Bool
  | .dewire | .leakage => true
  | _ => false

/-- A vehicle holds an inhibiting fault (R154). -/
def Vehicle.inhibits (v : Vehicle) : Bool := v.faults.any fun x => x.code.inhibiting

/-- The silence timer: T_silence from the last telegram time while the vehicle is not LOST (R148, R151). -/
def Vehicle.silence (e : Env) (v : Vehicle) : Option Timer :=
  if v.lost then none else some ⟨v.heard, e.network.tSilence * 1000⟩

/-- The state named without its sub-phase (R66 step 4). -/
def FeederState.main : FeederState → FeederState
  | .deadTime _ => .deadTime .timing
  | .lineTest _ => .lineTest .precheck
  | s => s

/-- The test contactor is driven in SETTLE and TEST (R65). -/
def FeederState.drivesTest : FeederState → Bool
  | .lineTest .settle | .lineTest .test => true
  | _ => false

/-- Protection acts in CLOSING and CLOSED (R44). -/
def FeederState.live : FeederState → Bool
  | .closing | .closed => true
  | _ => false

/-- CLOSING, CLOSED, or LINE_TEST in TEST: no calibration of its channel then (R35, R36). -/
def FeederState.calLive : FeederState → Bool
  | .closing | .closed | .lineTest .test => true
  | _ => false

/-- LOCKOUT, OPEN, HELD and BREAKER_FAIL: the states that end a reclose sequence (R81). -/
def FeederState.endsSequence : FeederState → Bool
  | .lockout | .opened | .held | .breakerFail => true
  | _ => false

/-- The outputs as R65 drives them in the feeder's state. -/
def Feeder.driven (x : Feeder) : Feeder :=
  { x with
    tripCoil := decide (x.state = .tripping)
    closeCoil := decide (x.state = .closing)
    testContactor := x.state.drivesTest }

end Sys2Proof.Machine
end

