-- ==== Sys2Proof/Machine/Operands.lean ====
section
/-! DEFINITION. The arguments of requests: the codes of enumerated arguments (R198), the clamping of timers and the ranges
of every other setting (R4, R6 to R11, R22, R184). -/

namespace Sys2Proof.Machine

open Sys2Proof

/-! ## Enumerated arguments: coded by their place in the list of their rule, from 0 (R198) -/

/-- LEFT or RIGHT in a request: coded by its place, from 0, and not by the codes of the THROW format on the drive link. (DESIGN
CHOICE, log 19) -/
def legOf : Nat → Option Leg
  | 0 => some .left
  | 1 => some .right
  | _ => none

def dirOf : Nat → Option Dir
  | 0 => some .ab
  | 1 => some .ba
  | _ => none

/-- A flag: a value above 1 is out of range. (DEDUCED, log 21) -/
def flagOf : Nat → Option Bool
  | 0 => some false
  | 1 => some true
  | _ => none

def policyOf : Nat → Option Policy
  | 0 => some .hold
  | 1 => some .trip
  | _ => none

def leakActionOf : Nat → Option LeakAction
  | 0 => some .notify
  | 1 => some .tripSection
  | _ => none

def compareModeOf : Nat → Option CompareMode
  | 0 => some .none
  | 1 => some .above
  | 2 => some .below
  | 3 => some .outside
  | _ => none

def lineModeOf : Nat → Option LineMode
  | 0 => some .level
  | 1 => some .pulse
  | _ => none

def gapOf : Nat → Option GapTime
  | 0 => some .us10
  | 1 => some .us5
  | 2 => some .us2half
  | 3 => some .us1quarter
  | _ => none

def routingOf : Nat → Option Routing
  | 0 => some .own
  | 1 => some .shared
  | _ => none

/-- A vehicle fault code: DEWIRE 1 to AUX_SUPPLY 5. -/
def faultCodeOf : Nat → Option FaultCode
  | 1 => some .dewire
  | 2 => some .leakage
  | 3 => some .traction
  | 4 => some .overload
  | 5 => some .auxSupply
  | _ => none

/-- A fault code, or ALL coded 0, which names none. -/
def faultOrAllOf : Nat → Option (Option FaultCode)
  | 0 => some none
  | n => (faultCodeOf n).map some

/-- A notice kind by its code, 1 for the first of the catalogue. -/
def noticeKindOf : Nat → Option NoticeKind
  | 0 => none
  | n + 1 => NoticeKind.all[n]?

/-- A section side that may be NONE, carried as 255 (R196). -/
def sideOf (n : Nat) : Option (Option Nat) :=
  if n = 255 then some none else if n < 24 then some (some n) else none

/-! ## Settings (R4, R184) -/

/-- A timer out of range is clamped to the nearer end of its range (R184). -/
def clampTimer (lo hi x : Nat) : Nat := max lo (min hi x)

/-- T_hold: 0 is no hold limit; any other value is a timer of 1 to 600 s (R6). -/
def clampHold (x : Nat) : Nat := min 600 x

/-- The numbers of R9 with every timer clamped. -/
def clampTimers (x : SettingNumbers) : SettingNumbers :=
  { x with
    tDead := clampTimer 100 60000 x.tDead
    tSettle := clampTimer 20 2000 x.tSettle
    tClose := clampTimer 20 1000 x.tClose
    tTrip := clampTimer 20 1000 x.tTrip
    tReset := clampTimer 1 600 x.tReset
    tStep := clampTimer 1 500 x.tStep
    tStale := clampTimer 2 500 x.tStale }

/-- The ranges of the counts, thresholds and thermal levels of R9, and θ_alarm ≤ θ_trip. -/
def settingsInRange (x : SettingNumbers) : Bool :=
  decide (x.nRc ≤ 4 ∧ 1 ≤ x.nLt ∧ x.nLt ≤ 8 ∧ 2 ≤ x.w ∧ x.w ≤ 16 ∧ 4 ≤ x.k ∧ x.k ≤ 15) &&
  decide (500 ≤ x.iInst ∧ x.iInst ≤ 12000 ∧ (x.iRev = 0 ∨ 100 ≤ x.iRev ∧ x.iRev ≤ 12000)) &&
  decide (100 ≤ x.dIset ∧ x.dIset ≤ 6000) &&
  decide (1 ≤ x.thetaAlarm ∧ x.thetaAlarm ≤ x.thetaTrip ∧ x.thetaTrip ≤ 35156) &&
  decide (1000 ≤ x.rT ∧ x.rT ≤ 100000 ∧ 100 ≤ x.rMin ∧ x.rMin ≤ 50000 ∧ 100 ≤ x.vBf ∧ x.vBf ≤ 6000)

/-- The settings a request carries, with the CLAMPED flag, or none where a field is refused (R4, R9, R88). -/
def readProtection (a : ProtectionArgs) : Option (Settings × Bool) :=
  match policyOf a.policy with
  | none => none
  | some pol =>
    if settingsInRange a.toSettingNumbers then
      let x := clampTimers a.toSettingNumbers
      some ({ toSettingNumbers := x, policy := pol }, decide (x ≠ a.toSettingNumbers))
    else none

/-- The network record a request carries, with the CLAMPED flag (R6). -/
def readNetwork (a : NetworkArgs) : Option (NetRecord × Bool) :=
  match leakActionOf a.leakage with
  | none => none
  | some act =>
    if 1 ≤ a.busCount ∧ a.busCount ≤ 4 ∧ a.radioGroup ≤ 254 then
      let tm := clampTimer 100 10000 a.tMatch
      let ts := clampTimer 5 600 a.tSilence
      let tp := clampTimer 500 10000 a.tPoint
      let th := clampHold a.tHold
      some ({ busCount := a.busCount, tMatch := tm, tSilence := ts, tPoint := tp, tHold := th,
              radioGroup := a.radioGroup, leakage := act },
            decide (tm ≠ a.tMatch ∨ ts ≠ a.tSilence ∨ tp ≠ a.tPoint ∨ th ≠ a.tHold))
    else none

/-- The feeder record a request carries (R8, R9). -/
def readFeederRec (a : FeederArgs) : Option (FeederRec × Bool) :=
  match readProtection a.protection with
  | none => none
  | some (x, clamped) =>
    if a.feeder < 16 ∧ a.sec < 24 ∧ a.bus < 4 ∧ a.currentCh < 48 ∧ a.busCh < 48 ∧ a.lineCh < 48 then
      some ({ sec := a.sec, bus := a.bus, currentCh := a.currentCh, busCh := a.busCh, lineCh := a.lineCh,
              settings := x }, clamped)
    else none

/-- The detector record a request carries (R10). -/
def readDetectorRec (det sideA sideB : Nat) : Option DetectorRec :=
  match sideOf sideA, sideOf sideB with
  | some a, some b => if det < 48 then some { sideA := a, sideB := b } else none
  | _, _ => none

/-- The point record a request carries (R11). -/
def readPointRec (a : PointArgs) : Option PointRec :=
  match dirOf a.entryDir, dirOf a.leftDir, dirOf a.rightDir with
  | some de, some dl, some dr =>
    if a.point < 16 ∧ a.sec < 24 ∧ a.entry < 48 ∧ a.leftExit < 48 ∧ a.rightExit < 48 then
      some { sec := a.sec, entry := a.entry, leftExit := a.leftExit, rightExit := a.rightExit,
             entryDir := de, leftDir := dl, rightDir := dr }
    else none
  | _, _, _ => none

/-- A Scan List entry a request carries, limit state INSIDE, or none where R22 refuses it; `isCurrent` says whether its
channel is a current channel. -/
def readScanEntry (isCurrent : Bool) (a : ScanArgs) : Option ScanEntry :=
  match compareModeOf a.mode, flagOf a.record, flagOf a.pause, sideOf a.binding with
  | some m, some rec, some pause, some bind =>
    if a.channel < 48 ∧ a.settle ≤ 255 ∧ -12000 ≤ a.limit1 ∧ a.limit1 ≤ 12000 ∧ -12000 ≤ a.limit2 ∧ a.limit2 ≤ 12000 ∧
        a.hysteresis ≤ 1000 ∧ (m = .outside → 2 * (a.hysteresis : Int) ≤ a.limit2 - a.limit1) ∧
        (bind ≠ none → m = .below ∧ isCurrent = false) then
      some { channel := a.channel, settle := a.settle, record := rec, mode := m, limit1 := a.limit1, limit2 := a.limit2,
             hysteresis := a.hysteresis, pause := pause, binding := bind, crossing := none }
    else none
  | _, _, _, _ => none

end Sys2Proof.Machine
end

