-- ==== Sys2Proof/Machine/Transmit.lean ====
section
/-! DEFINITION. Handing a telegram to RLC (R166, R167). -/

namespace Sys2Proof.Machine

open Sys2Proof

/-- The section a section broadcast is about. -/
def TxTelegram.sec? : TxTelegram → Option Nat
  | .secDead sec _ => some sec
  | .secLive sec => some sec
  | _ => none

/-- The queued telegram `old` is the replacement target of `new`: a section broadcast for the same section, or a PT_BLOCK
for the same point (R167). -/
def TxTelegram.replaces (new old : TxTelegram) : Bool :=
  match new, old with
  | .ptBlock pt _, .ptBlock pt' _ => decide (pt = pt')
  | _, _ => new.sec?.isSome && decide (new.sec? = old.sec?)

/-- The queue with the replacement target replaced in place, if there is one. -/
def replaceTx (t : TxTelegram) : List TxTelegram → Option (List TxTelegram)
  | [] => none
  | x :: q => if t.replaces x then some (t :: q) else (replaceTx t q).map (x :: ·)

/-- A block hands RLC a telegram: discarded while the transmit acknowledge is clear (R166), else replaced in place,
appended, or discarded with TX_OVERFLOW, whose notice is queued when the flag goes from clear to set (R167). -/
def handTelegram (e : Env) (t : TxTelegram) (b : Blocks) : Blocks :=
  if b.rlc.txAck = false then b
  else
    match replaceTx t b.rlc.txQueue with
    | some q => { b with rlc := { b.rlc with txQueue := q } }
    | none =>
      if b.rlc.txQueue.length < Config.transmitMax then
        { b with rlc := { b.rlc with txQueue := b.rlc.txQueue ++ [t] } }
      else if b.rlc.txOverflow then b
      else say e (.txOverflow t) { b with rlc := { b.rlc with txOverflow := true } }

end Sys2Proof.Machine
end

