-- ==== Sys2Proof/Machine/Points.lean ====
section
/-! DEFINITION. Point Control and the Drive Link Controller (R108 to R140), with the commands on points and the events of
the drive link. -/

namespace Sys2Proof.Machine

open Sys2Proof

/-! ## The record of a point, and the POINT_STATE that ends an event (R114) -/

/-- What R114 compares: the record of R108 with its contacts, less the T_hold timer and the link record. (DEDUCED, log 17)
-/
def pointView (e : Env) (pt : Nat) (b : Blocks) : Option (Point × Contact × Contact) :=
  (b.point? pt).map fun x =>
    ({ x with hold := none, link := ⟨.none, .resyncPending, 0, false, none, none⟩ }, e.leftContact pt, e.rightContact pt)

/-- The content of POINT_STATE (R114). -/
def pointStateOf (e : Env) (pt : Nat) (x : Point) : PointStateContent where
  pt := pt
  position := e.position pt x.drive
  drive := x.drive
  target := x.target
  count := x.count
  countFault := x.countFault
  blocked := x.blocked
  worksHeld := x.worksHeld
  failed := x.failed
  reservations := x.queue.length
  headTag := x.queue.head?.map (·.rtag)
  headActive := x.queue.head?.map (·.active.isSome)
  lastResult := x.lastResult

/-- A reservation as its notices carry it. -/
def Reservation.content (pt : Nat) (r : Reservation) : ReservationContent where
  pt := pt
  position := r.position
  rtag := r.rtag
  vehicle := r.vehicle

/-! ## Drives (R116, R118, R140) -/

/-- The results that set FAILED (R118). -/
def DriveResult.failing : DriveResult → Bool
  | .refusedLocal | .jammed | .noAnswer | .busy | .notReached => true
  | .reached | .powerLost | .withdrawn => false

/-- The pending work once the THROW is gone; a RESYNC before it stays (R130). -/
def DriveWork.withoutThrow : DriveWork → DriveWork
  | .throw => .none
  | .resyncThenThrow => .resync
  | w => w

/-- Takes a point from the Drive Queue, the points behind it moving up. -/
def unqueue (pt : Nat) (b : Blocks) : Blocks :=
  { b with dlc := { b.dlc with queue := b.dlc.queue.filter fun x => decide (x ≠ pt) } }

/-- A point joins the Drive Queue at its tail (R130). -/
def enqueue (pt : Nat) (b : Blocks) : Blocks := { b with dlc := { b.dlc with queue := b.dlc.queue ++ [pt] } }

/-- The end of a drive, or of a RESYNC that failed: target none, T_point stopped, the THROW gone from the link record and
from the queue, FAILED set by a failing result, POINT_RESULT for POWER_LOST and the failing results (R118, R140). Head
service is made by the event that ends with it. -/
def endDrive (e : Env) (pt : Nat) (resync : Bool) (r : DriveResult) (b : Blocks) : Blocks :=
  match b.point? pt with
  | none => b
  | some x =>
    let work := if resync then .none else x.link.work.withoutThrow
    let y : Point :=
      { x with
        drive := .idle, target := none, lastResult := some r, failed := x.failed || r.failing
        link := { x.link with work := work, tPoint := none } }
    let b := b.setPoint pt y
    let b := if work = .none then unqueue pt b else b
    if r.failing || decide (r = .powerLost) then
      say e (.pointResult
        { pt := pt, resync := resync, target := x.target, result := r, sends := x.link.sends, bit := x.link.bitSent,
          seqBit := x.seqBit, attempt := x.attempt, position := e.position pt .idle,
          powered := b.powered x.frame.sec }) b
    else b

/-! ## Head service (R113) and the end of an event -/

/-- The head made WAITING: no active time, no overdue mark, T_hold stopped (R113, R115). -/
def Point.headWaiting (x : Point) : Point :=
  match x.queue with
  | [] => x
  | r :: q => { x with queue := { r with active := none, overdue := false } :: q, hold := none }

/-- T_hold of the network record as a timer from now; 0 starts none (R113). -/
def Env.holdTimer (e : Env) : Option Timer :=
  if e.network.tHold = 0 then none else some ⟨e.time, e.network.tHold * 1000⟩

/-- The drive state of the stop flags: the first of FAILED, BLOCKED, WORKS_HELD that is set (R113 case 1). -/
def Point.stopState (x : Point) : Option DriveState :=
  if x.failed then some .failed else if x.blocked then some .blocked else if x.worksHeld then some .worksHeld else none

/-- Head service: the first case of R113 that applies. -/
def headService (e : Env) (pt : Nat) (b : Blocks) : Blocks :=
  match b.point? pt with
  | none => b
  | some x =>
    match x.stopState with
    | some d => b.setPoint pt { x.headWaiting with drive := d }
    | none =>
      match x.queue with
      | [] => b.setPoint pt { x with drive := .idle }
      | r :: q =>
        if r.active.isSome then b.setPoint pt { x with drive := .idle }
        else if e.position pt x.drive = legPosition r.position then
          say e (.pointSet (r.content pt))
            (b.setPoint pt
              { x with queue := { r with active := some e.time } :: q, hold := e.holdTimer, drive := .idle })
        else if x.countFault then b.setPoint pt { x with drive := .idle }
        else if 0 < x.count then b.setPoint pt { x with drive := .waitClear }
        else if b.powered x.frame.sec = false then b.setPoint pt { x with drive := .waitPower }
        else
          let y : Point := { x with target := some r.position, attempt := 0, drive := .queued }
          match x.link.work with
          | .none => enqueue pt (b.setPoint pt { y with link := { x.link with work := .throw, sends := 0 } })
          | .resync => b.setPoint pt { y with link := { x.link with work := .resyncThenThrow } }
          | _ => b.setPoint pt y

/-- Removes the head; T_hold is stopped with it. -/
def Point.withoutHead (x : Point) : Point := { x with queue := x.queue.tail, hold := none }

/-- An overdue head leaves with RESERVATION_EXPIRED once the collector count is 0 (R120). -/
def expireOverdue (e : Env) (pt : Nat) (b : Blocks) : Blocks :=
  match b.point? pt with
  | none => b
  | some x =>
    match x.queue with
    | [] => b
    | r :: _ =>
      if r.overdue ∧ x.count = 0 then say e (.reservationExpired (r.content pt)) (b.setPoint pt x.withoutHead) else b

/-- A QUEUED point is withdrawn at the end of an event after which one of these holds (R116). -/
def withdrawn (e : Env) (pt : Nat) (b : Blocks) (x : Point) : Bool :=
  decide (x.queue.head?.map (·.position) ≠ x.target) || x.stopState.isSome || x.countFault || decide (0 < x.count) ||
    !b.powered x.frame.sec || decide (some (e.position pt x.drive) = x.target.map legPosition)

/-- What ends every event of a point: an overdue head, withdrawal, head service (R114, R116, R120). -/
def settlePoint (e : Env) (pt : Nat) (b : Blocks) : Blocks :=
  let b := expireOverdue e pt b
  match b.point? pt with
  | none => b
  | some x =>
    match x.drive with
    | .queued => if withdrawn e pt b x then headService e pt (endDrive e pt false .withdrawn b) else b
    | .sending | .moving => b
    | _ => headService e pt b

/-- The end of an event of a point whose record stood as `before`: POINT_STATE if the record changed (R114). -/
def endPointEvent (e : Env) (pt : Nat) (before : Option (Point × Contact × Contact)) (b : Blocks) : Blocks :=
  let b := settlePoint e pt b
  if pointView e pt b = before then b
  else
    match b.point? pt with
    | none => b
    | some x => say e (.pointState (pointStateOf e pt x)) b

/-- An event that reaches a point. -/
def pointEvent (e : Env) (pt : Nat) (body : Blocks → Blocks) (b : Blocks) : Blocks :=
  endPointEvent e pt (pointView e pt b) (body b)

/-! ## Section power (R123) -/

/-- SM tells PC a section's state and powered value: for each of its points, a MOVING drive ends POWER_LOST when the value
is false; withdrawal and head service do the rest. -/
def sectionPower (e : Env) (sec : Nat) (b : Blocks) : Blocks :=
  (e.pointsOf sec).foldl
    (fun b pt =>
      pointEvent e pt
        (fun b =>
          match b.point? pt with
          | none => b
          | some x =>
            if x.drive = .moving ∧ b.powered x.frame.sec = false then endDrive e pt false .powerLost b else b)
        b)
    b

/-! ## Contacts, collectors, T_hold (R109, R110, R115, R118 to R120) -/

/-- A point's detection contacts have changed from what `old` reads to what `e` reads. (DEDUCED, log 13) -/
def contactsChanged (old e : Env) (pt : Nat) (b : Blocks) : Blocks :=
  match b.point? pt with
  | none => b
  | some x =>
    let was := old.position pt x.drive
    let now := e.position pt x.drive
    let b :=
      if e.leftContact pt = .closed ∧ e.rightContact pt = .closed ∧
          ¬ (old.leftContact pt = .closed ∧ old.rightContact pt = .closed) then
        say e (.detectionFault pt was) b
      else b
    match x.drive with
    | .sending => b
    | .moving => if some now = x.target.map legPosition then endDrive e pt false .reached b else b
    | _ =>
      if now = was then b
      else
        let b := say e (.pointMoved pt was now x.drive) b
        match x.queue with
        | [] => b
        | r :: _ => if r.active.isSome ∧ now ≠ legPosition r.position then b.setPoint pt x.headWaiting else b

/-- The facing direction of the point's detector in the role `r` (R11). -/
def PointRec.facing (x : PointRec) : DetectorRole → Dir
  | .entry => x.entryDir
  | .leftExit => x.leftDir
  | .rightExit => x.rightDir

/-- A pass brings a collector in: facing at the entry, trailing at an exit (R110). -/
def passEnters (x : PointRec) (r : DetectorRole) (d : Dir) : Bool :=
  decide (d = x.facing r) == decide (r = .entry)

/-- The leg of an exit. -/
def DetectorRole.leg : DetectorRole → Option Leg
  | .entry => none
  | .leftExit => some .left
  | .rightExit => some .right

/-- A pass at one of the point's detectors: the collector count (R110), then the release of an ACTIVE head by a facing pass
at an exit (R119). -/
def countPass (e : Env) (pt : Nat) (r : DetectorRole) (det : Nat) (d : Dir) (b : Blocks) : Blocks :=
  match b.point? pt with
  | none => b
  | some x =>
    let enters := passEnters x.frame r d
    let bound := if enters then decide (x.count = Config.collectorMax) else decide (x.count = 0)
    let count := if enters then min Config.collectorMax (x.count + 1) else x.count - 1
    let x := { x with count := count, countFault := x.countFault || bound }
    let b := b.setPoint pt x
    let b := if bound then say e (.countFault pt det d count) b else b
    match r.leg, x.queue with
    | some leg, h :: _ =>
      if d = x.frame.facing r ∧ h.active.isSome then
        let b := b.setPoint pt x.withoutHead
        if leg = h.position then b else say e (.wrongExit (h.content pt) leg) b
      else b
    | _, _ => b

/-- A pass event at a detector that belongs to a point (R110, R141). -/
def pointPass (e : Env) (det : Nat) (d : Dir) (b : Blocks) : Blocks :=
  match e.roleOf det with
  | none => b
  | some (pt, r) => pointEvent e pt (countPass e pt r det d) b

/-- T_hold expires for an ACTIVE head (R120). -/
def holdExpires (e : Env) (pt : Nat) (b : Blocks) : Blocks :=
  match b.point? pt with
  | none => b
  | some x =>
    match x.queue with
    | [] => b
    | r :: q =>
      if r.active.isSome ∧ timerDue x.hold e.time = true then
        if x.count = 0 then say e (.reservationExpired (r.content pt)) (b.setPoint pt x.withoutHead)
        else b.setPoint pt { x with queue := { r with overdue := true } :: q, hold := none }
      else b

/-! ## Blocks (R124) -/

/-- VT tells PC to block a point. -/
def blockPoint (e : Env) (pt det vehicle : Nat) (b : Blocks) : Blocks :=
  pointEvent e pt
    (fun b =>
      match b.point? pt with
      | none => b
      | some x =>
        let b' := say e (.pointBlocked pt det vehicle) (b.setPoint pt { x with blocked := true })
        if x.blocked then b' else handTelegram e (.ptBlock pt det) b')
    b

/-! ## Removing reservations (R121, R122) -/

/-- Removes from a point's queue every reservation that `gone` names; a QUEUED point whose head goes is withdrawn (R121). -/
def removeReservations (e : Env) (pt : Nat) (gone : Reservation → Bool) (b : Blocks) : Blocks :=
  match b.point? pt with
  | none => b
  | some x =>
    let headGone := (x.queue.head?.map gone).getD false
    let b := b.setPoint pt
      { x with queue := x.queue.filter fun r => !gone r, hold := if headGone then none else x.hold }
    if headGone ∧ x.drive = .queued then endDrive e pt false .withdrawn b else b

/-- How many reservations of a point `gone` names. -/
def countReservations (pt : Nat) (gone : Reservation → Bool) (b : Blocks) : Nat :=
  match b.point? pt with
  | none => 0
  | some x => (x.queue.filter gone).length

/-- The reservation names the vehicle. -/
def Reservation.names (v : Nat) (r : Reservation) : Bool := decide (r.vehicle = some v)

/-- Every reservation naming the vehicle leaves, on every point that holds one, in ascending number (R122). -/
def cancelVehicle (e : Env) (v : Nat) (b : Blocks) : Blocks :=
  (List.range 16).foldl
    (fun b pt =>
      if countReservations pt (Reservation.names v) b = 0 then b
      else pointEvent e pt (removeReservations e pt (Reservation.names v)) b)
    b

/-- How many reservations name the vehicle. -/
def vehicleReservations (v : Nat) (b : Blocks) : Nat :=
  ((List.range 16).map fun pt => countReservations pt (Reservation.names v) b).sum

/-! ## The drive link (R129 to R138) -/

/-- The message of a RESYNC or of a THROW (chapter Frame and Telegram Layouts). -/
def driveMessage (pt : Nat) (x : Point) (resync : Bool) : List Byte :=
  withCheck (if resync then [BitVec.ofNat 8 pt, 2]
    else [BitVec.ofNat 8 pt, 1, match x.target with | some .right => 2 | _ => 1, if x.seqBit then 1 else 0])

/-- Sends a point's RESYNC or THROW: the point holds the link, the send count rises, the bit sent is the sequence bit (0
for a RESYNC), the 30 ms expiry starts, and a throw's first send takes the drive from QUEUED to SENDING (R131). -/
def sendDrive (e : Env) (pt : Nat) (resync : Bool) (b : Blocks) : Blocks :=
  match b.point? pt with
  | none => b
  | some x =>
    let y : Point :=
      { x with
        drive := if resync then x.drive else .sending
        link := { x.link with sends := x.link.sends + 1, bitSent := !resync && x.seqBit } }
    let b := b.setPoint pt y
    { b with dlc := { b.dlc with link := some ⟨pt, resync, driveMessage pt x resync, ⟨e.time, Config.driveExpiryMs⟩⟩ } }

/-- PC's check before each send of a THROW (R117). -/
def maySend (b : Blocks) (x : Point) : Bool :=
  decide (x.count = 0) && b.powered x.frame.sec && !x.blocked && !x.worksHeld && !x.countFault &&
    match x.queue with
    | [] => false
    | r :: _ => decide (r.active = none ∧ x.target = some r.position)

/-- The retry state of a point, its send count and bit sent, is discarded (R117). (DEDUCED, log 43) -/
def discardRetries (pt : Nat) (b : Blocks) : Blocks :=
  b.amendPoint pt fun x => { x with link := { x.link with sends := 0, bitSent := false } }

/-- A send of a THROW if the check passes; else no message is sent, the retry state is discarded and the drive ends
WITHDRAWN (R117, R131, R133). -/
def sendThrow (e : Env) (pt : Nat) (b : Blocks) : Blocks :=
  match b.point? pt with
  | none => b
  | some x =>
    if maySend b x then sendDrive e pt false b else endDrive e pt false .withdrawn (discardRetries pt b)

/-- With the link free, DLC takes the head of the Drive Queue; where a check refuses its THROW, the next head at once
(R131). A point refused may rejoin once, with its conditions just found to hold, so `n` above twice the queue is enough.
(DESIGN CHOICE, log 34) -/
def serveDriveQueue : Nat → Env → Blocks → Blocks
  | 0, _, b => b
  | n + 1, e, b =>
    if b.dlc.link.isSome ∨ b.dlc.rest.isSome then b
    else
      match b.dlc.queue with
      | [] => b
      | pt :: q =>
        let b := { b with dlc := { b.dlc with queue := q } }
        match (b.point? pt).map (fun x : Point => x.link.work) with
        | some .resync | some .resyncThenThrow => sendDrive e pt true b
        | some .throw => serveDriveQueue n e (pointEvent e pt (sendThrow e pt) b)
        | _ => serveDriveQueue n e b

/-- How a transaction ended (R132). -/
inductive DriveEnding where
  | taken | synced | busy
  | refused (r : DriveResult)
  | noAnswer
  deriving DecidableEq, Repr

/-- The ending an answer gives: any answer that fails its check is NO_ANSWER at once (R132, R199). -/
def driveEnding (fl : DriveFlight) (bitSent : Bool) (framing : Bool) (bytes : List Byte) : DriveEnding :=
  match bytes with
  | [p, a, bit, _, _] =>
    if framing ∨ checkOk bytes = false ∨ p.toNat ≠ fl.point ∨ 1 < bit.toNat then .noAnswer
    else
      let sameBit := decide (bit.toNat = if bitSent then 1 else 0)
      match a.toNat, fl.resync with
      | 1, true => if sameBit then .synced else .noAnswer
      | 1, false | 2, false => if sameBit then .taken else .noAnswer
      | 3, _ => .busy
      | 4, false => .refused .refusedLocal
      | 5, false => .refused .jammed
      | _, _ => .noAnswer
  | _ => .noAnswer

/-- A point's BUSY delay starts (R134). -/
def startBusyDelay (e : Env) (pt : Nat) (b : Blocks) : Blocks :=
  b.amendPoint pt fun x => { x with link := { x.link with busyDelay := some ⟨e.time, Config.busyDelayMs⟩ } }

/-- The throw was taken: the bit flips, the work is none, and the drive goes MOVING with T_point, ends REACHED at once, or
ends POWER_LOST (R118, R135). -/
def throwTaken (e : Env) (pt : Nat) (b : Blocks) : Blocks :=
  match b.point? pt with
  | none => b
  | some x =>
    let y : Point := { x with seqBit := !x.link.bitSent, link := { x.link with work := .none } }
    if b.powered x.frame.sec then
      let b := b.setPoint pt
        { y with drive := .moving, link := { y.link with tPoint := some ⟨e.time, e.network.tPoint⟩ } }
      if some (e.position pt .moving) = x.target.map legPosition then endDrive e pt false .reached b else b
    else endDrive e pt false .powerLost (b.setPoint pt y)

/-- A THROW's transaction has ended and the link is free (R133 to R136). -/
def throwEnds (e : Env) (pt : Nat) (en : DriveEnding) (b : Blocks) : Blocks :=
  match b.point? pt with
  | none => b
  | some x =>
    match en with
    | .taken | .synced => throwTaken e pt b
    | .refused r => endDrive e pt false r b
    | .busy =>
      if x.link.sends < Config.sendMax then startBusyDelay e pt b else endDrive e pt false .busy b
    | .noAnswer =>
      if x.link.sends < Config.sendMax then sendThrow e pt b else endDrive e pt false .noAnswer b

/-- A RESYNC succeeded: a THROW behind it joins the queue (R138). -/
def resyncDone (pt : Nat) (b : Blocks) : Blocks :=
  match b.point? pt with
  | none => b
  | some x =>
    match x.link.work with
    | .resyncThenThrow =>
      enqueue pt (b.setPoint pt
        { x with link := { x.link with sync := .synchronised, work := .throw, sends := 0 } })
    | _ => b.setPoint pt { x with link := { x.link with sync := .synchronised, work := .none } }

/-- A RESYNC failed: UNSYNCHRONISED and FAILED, with POINT_RESULT; a drive behind it ends (R138). -/
def resyncFailed (e : Env) (pt : Nat) (r : DriveResult) (b : Blocks) : Blocks :=
  endDrive e pt true r
    (b.amendPoint pt fun x => { x with link := { x.link with sync := .unsynchronised } })

/-- A RESYNC's transaction has ended and the link is free (R133, R134, R138). -/
def resyncEnds (e : Env) (pt : Nat) (en : DriveEnding) (b : Blocks) : Blocks :=
  match b.point? pt with
  | none => b
  | some x =>
    match en with
    | .synced | .taken => resyncDone pt b
    | .busy =>
      if x.link.sends < Config.sendMax then startBusyDelay e pt b else resyncFailed e pt .busy b
    | .refused _ | .noAnswer =>
      if x.link.sends < Config.sendMax then sendDrive e pt true b else resyncFailed e pt .noAnswer b

/-- The transaction in flight ends with `en` (R132). -/
def driveEnds (e : Env) (fl : DriveFlight) (en : DriveEnding) (b : Blocks) : Blocks :=
  let b := { b with dlc := { b.dlc with link := none } }
  pointEvent e fl.point (if fl.resync then resyncEnds e fl.point en else throwEnds e fl.point en) b

/-- An answer arrives: discarded when no transaction is in flight (R132). -/
def driveAnswer (framing : Bool) (bytes : List Byte) (e : Env) (b : Blocks) : Blocks :=
  match b.dlc.link with
  | none => b
  | some fl =>
    let bitSent := ((b.point? fl.point).map (·.link.bitSent)).getD false
    driveEnds e fl (driveEnding fl bitSent framing bytes) b

/-- The 30 ms expiry ends the transaction as NO_ANSWER (R132). -/
def driveExpires (e : Env) (b : Blocks) : Blocks :=
  match b.dlc.link with
  | none => b
  | some fl => if fl.expiry.due e.time then driveEnds e fl .noAnswer b else b

/-- A BUSY delay runs out and the point rejoins the Drive Queue (R134). -/
def busyExpires (pt : Nat) (e : Env) (b : Blocks) : Blocks :=
  match b.point? pt with
  | none => b
  | some x =>
    if timerDue x.link.busyDelay e.time then
      enqueue pt (b.setPoint pt { x with link := { x.link with busyDelay := none } })
    else b

/-- T_point expires while MOVING: the re-command at attempt 0, NOT_REACHED at attempt 1 (R137). (DEDUCED, log 18) -/
def pointTimerExpires (e : Env) (pt : Nat) (b : Blocks) : Blocks :=
  match b.point? pt with
  | none => b
  | some x =>
    if x.drive = .moving ∧ timerDue x.link.tPoint e.time = true then
      if x.attempt = 0 then
        enqueue pt (b.setPoint pt
          { x with attempt := 1, drive := .queued, link := { x.link with work := .throw, sends := 0, tPoint := none } })
      else endDrive e pt false .notReached b
    else b

/-! ## Requests on points -/

/-- RESERVE's own checks, in the order of R112. -/
def answerReserve (pt position vehicle rtag : Nat) (s : State) : Answer :=
  match legOf position with
  | none => refuse .badArgument
  | some leg =>
    if 16 ≤ pt ∨ 4095 < vehicle ∨ rtag = 0 ∨ 65535 < rtag then refuse .badArgument
    else
      naming s.blocks.points pt fun x =>
        if x.queue.any fun r => decide (r.rtag = rtag) then refuse .badArgument
        else if Config.reservationMax ≤ x.queue.length then refuse .queueFull
        else
          effect .done fun e =>
            pointEvent e pt fun b => b.amendPoint pt fun x =>
              { x with queue := x.queue ++
                [⟨leg, if vehicle = 0 then none else some vehicle, rtag, none, false⟩] }

def answerCancel (pt rtag : Nat) (s : State) : Answer :=
  if 16 ≤ pt ∨ rtag = 0 ∨ 65535 < rtag then refuse .badArgument
  else
    naming s.blocks.points pt fun x =>
      if x.queue.any fun r => decide (r.rtag = rtag) then
        effect .done fun e => pointEvent e pt (removeReservations e pt fun r => decide (r.rtag = rtag))
      else refuse .noSuch

def answerFlushPoint (pt : Nat) (s : State) : Answer :=
  naming s.blocks.points pt fun x =>
    effect .done (fun e => pointEvent e pt (removeReservations e pt fun _ => true)) (.count x.queue.length)

def answerCancelVehicle (v : Nat) (s : State) : Answer :=
  if v = 0 ∨ 4095 < v then refuse .badArgument
  else effect .done (fun e => cancelVehicle e v) (.count (vehicleReservations v s.blocks))

/-- HOLD_POINT: ACCEPTED while the drive unit is at work on a point not yet held, else DONE (R125). -/
def answerHoldPoint (pt : Nat) (s : State) : Answer :=
  naming s.blocks.points pt fun x =>
    effect (if (x.drive = .sending ∨ x.drive = .moving) ∧ x.worksHeld = false then .accepted else .done) fun e =>
      pointEvent e pt fun b => b.amendPoint pt fun x => { x with worksHeld := true }

def answerFreePoint (pt : Nat) (s : State) : Answer :=
  naming s.blocks.points pt fun _ =>
    effect .done fun e => pointEvent e pt fun b => b.amendPoint pt fun x => { x with worksHeld := false }

/-- RESET_POINT (R126). -/
def answerResetPoint (pt : Nat) (s : State) : Answer :=
  naming s.blocks.points pt fun _ =>
    effect .done fun e =>
      pointEvent e pt fun b => b.amendPoint pt fun x =>
        { x with blocked := false, failed := false, countFault := false, count := 0 }

/-- The record READ_POINT reports (R127, R129); the head of the Drive Queue is place 0. (DESIGN CHOICE, log 44) -/
def pointReport (s : State) (pt : Nat) (x : Point) : PointReport where
  point := x
  leftContact := s.env.leftContact pt
  rightContact := s.env.rightContact pt
  position := s.env.position pt x.drive
  secState := s.blocks.secState x.frame.sec
  powered := s.blocks.powered x.frame.sec
  holdLeft := timerLeft x.hold s.time
  tPointLeft := timerLeft x.link.tPoint s.time
  queuePlace := s.blocks.dlc.queue.findIdx? fun q => decide (q = pt)

def answerReadPoint (pt : Nat) (s : State) : Answer :=
  naming s.blocks.points pt fun x => { code := .done, result := .point (pointReport s pt x) }

/-! ## The commands -/

def execReserve (p : Port) (tag pt position vehicle rtag : Nat) (s : State) : Host.Outcome State Fault Refusal :=
  .next (takeRequest p tag .reserve (answerReserve pt position vehicle rtag) s)

def execCancel (p : Port) (tag pt rtag : Nat) (s : State) : Host.Outcome State Fault Refusal :=
  .next (takeRequest p tag .cancel (answerCancel pt rtag) s)

def execFlushPoint (p : Port) (tag pt : Nat) (s : State) : Host.Outcome State Fault Refusal :=
  .next (takeRequest p tag .flushPoint (answerFlushPoint pt) s)

def execCancelVehicle (p : Port) (tag v : Nat) (s : State) : Host.Outcome State Fault Refusal :=
  .next (takeRequest p tag .cancelVehicle (answerCancelVehicle v) s)

def execHoldPoint (p : Port) (tag pt : Nat) (s : State) : Host.Outcome State Fault Refusal :=
  .next (takeRequest p tag .holdPoint (answerHoldPoint pt) s)

def execFreePoint (p : Port) (tag pt : Nat) (s : State) : Host.Outcome State Fault Refusal :=
  .next (takeRequest p tag .freePoint (answerFreePoint pt) s)

def execResetPoint (p : Port) (tag pt : Nat) (s : State) : Host.Outcome State Fault Refusal :=
  .next (takeRequest p tag .resetPoint (answerResetPoint pt) s)

def execReadPoint (p : Port) (tag pt : Nat) (s : State) : Host.Outcome State Fault Refusal :=
  .next (takeRequest p tag .readPoint (answerReadPoint pt) s)

/-- A detection contact reports (R3, R109): the input is followed in CONFIG and RUN; in RUN a change at a loaded point is an
event of PC. -/
def execDetectionContactChange (pt : Nat) (leg : Leg) (c : Contact) (s : State) : Host.Outcome State Fault Refusal :=
  let pins :=
    match leg with
    | .left => { s.pins with leftDetection := s.pins.leftDetection.setIfInBounds pt c }
    | .right => { s.pins with rightDetection := s.pins.rightDetection.setIfInBounds pt c }
  let t := { s with pins := pins }
  .next (t.inRun fun e b =>
    if s.env.leftContact pt = e.leftContact pt ∧ s.env.rightContact pt = e.rightContact pt then b
    else endPointEvent e pt (pointView s.env pt b) (contactsChanged s.env e pt b))

def execHoldTimerExpiry (pt : Nat) (s : State) : Host.Outcome State Fault Refusal :=
  .next (s.inRun fun e => pointEvent e pt (holdExpires e pt))

/-- DLC takes the head of the Drive Queue (R131). -/
def execDriveTransactionStart (s : State) : Host.Outcome State Fault Refusal :=
  .next (s.inRun fun e b => serveDriveQueue (2 * b.dlc.queue.length + 1) e b)

def execDriveAnswer (mark : AnswerMark) (bytes : List Byte) (s : State) : Host.Outcome State Fault Refusal :=
  .next (s.inRun (unlessLate (decide (mark = .late)) (driveAnswer (decide (mark = .framingError)) bytes)))

def execDriveAnswerExpiry (s : State) : Host.Outcome State Fault Refusal := .next (s.inRun driveExpires)

def execBusyDelayExpiry (pt : Nat) (s : State) : Host.Outcome State Fault Refusal := .next (s.inRun (busyExpires pt))

def execPointTimerExpiry (pt : Nat) (s : State) : Host.Outcome State Fault Refusal :=
  .next (s.inRun fun e => pointEvent e pt (pointTimerExpires e pt))

end Sys2Proof.Machine
end

