-- ==== Sys2Proof/Machine/Sections.lean ====
section
/-! DEFINITION. The Section Monitor and the deciding of permits (R90 to R93, R97, R101, R104): what follows a change of a
feeder's state, a change of LOW_VOLTAGE, and a walk sample of a line-voltage channel. -/

namespace Sys2Proof.Machine

open Sys2Proof

/-! ## The section's state (R91, R92) -/

/-- A feeder feeds its section in CLOSED, and in TRIPPING while its contact reads CLOSED (R91). -/
def feeds (e : Env) (b : Blocks) (f : Nat) : Bool :=
  match b.feeder? f with
  | none => false
  | some x =>
    match x.state with
    | .closed => true
    | .tripping => decide (e.aux f = .closed)
    | _ => false

/-- The state R91 derives for a section whose permit count is `permits`. -/
def derivedState (e : Env) (b : Blocks) (sec permits : Nat) : SectionState :=
  if 0 < permits then .isolated
  else if (e.feedersOf sec).any (feeds e b) then .energised
  else .dead

/-- The Scan List slot below the length that is bound to the section (R34). -/
def Sq.boundSlot (q : Sq) (sec : Nat) : Option Nat :=
  (List.range q.length).find? fun i => decide ((look q.slots i).bind (fun x : ScanEntry => x.binding) = some sec)

/-- The limit state of a slot set to INSIDE without a notice (R33, R34). -/
def Sq.clearSlot (i : Nat) (q : Sq) : Sq := { q with slots := amend q.slots i fun x => { x with crossing := none } }

/-- The limit state of a section's bound monitor set to INSIDE without a notice (R34). -/
def clearMonitor (sec : Nat) (b : Blocks) : Blocks :=
  match b.sq.boundSlot sec with
  | none => b
  | some i => { b with sq := b.sq.clearSlot i }

/-- Every live-on-isolated arming of a section's feeders set to ARMED (R104). -/
def armSection (e : Env) (sec : Nat) (b : Blocks) : Blocks :=
  (e.feedersOf sec).foldl (fun b f => b.amendFeeder f fun x => { x with liveArmed := true }) b

/-- A SECTION_STATE notice of the section as it stands (R92). -/
def saySection (e : Env) (sec : Nat) (b : Blocks) : Blocks :=
  match b.section? sec with
  | none => b
  | some x => say e (.sectionState sec x.state x.lowVoltage x.occupancy x.inhibit x.permits) b

/-- The broadcast of a change of section state; between DEAD and ISOLATED there is none (R92 step 3). -/
def broadcast (e : Env) (sec : Nat) (old new : SectionState) (b : Blocks) : Blocks :=
  if old = .energised then handTelegram e (.secDead sec new) b
  else if new = .energised then handTelegram e (.secLive sec) b
  else b

/-- SM derives a section's state and hands a change on (R91, R92 steps 1 to 4). -/
def deriveSection (e : Env) (sec : Nat) (b : Blocks) : Blocks :=
  match b.section? sec with
  | none => b
  | some x =>
    let new := derivedState e b sec x.permits
    if new = x.state then b
    else
      let b := if x.state = .energised ∧ x.lowVoltage = true then clearMonitor sec b else b
      let b := b.setSection sec { x with state := new, lowVoltage := x.lowVoltage && decide (x.state ≠ .energised) }
      let b := if x.state = .isolated then armSection e sec b else b
      sectionPower e sec (broadcast e sec x.state new (saySection e sec b))

/-- A change of LOW_VOLTAGE: SECTION_STATE, then PC is told the powered value (R93). -/
def setLowVoltage (e : Env) (sec : Nat) (on : Bool) (b : Blocks) : Blocks :=
  match b.section? sec with
  | none => b
  | some x =>
    if x.lowVoltage = on then b
    else sectionPower e sec (saySection e sec (b.setSection sec { x with lowVoltage := on }))

/-- FC writes the leader field of a section (R97). -/
def setLeader (sec : Nat) (leader : Option Nat) (b : Blocks) : Blocks :=
  b.amendSection sec fun x => { x with leader := leader }

/-! ## Deciding permits (R101) -/

/-- The feeders of a permit's sections. -/
def permitFeeders (e : Env) (p : Permit) : List Nat := p.secs.flatMap e.feedersOf

/-- The feeder is in the state. -/
def feederIn (b : Blocks) (st : FeederState) (f : Nat) : Bool :=
  decide ((b.feeder? f).map (fun x : Feeder => x.state) = some st)

/-- The first of the permit's feeders found in BREAKER_FAIL. (DESIGN CHOICE, log 16) -/
def failedFeeder (e : Env) (b : Blocks) (p : Permit) : Option Nat := (permitFeeders e p).find? (feederIn b .breakerFail)

/-- The state R101 decides for a permit. -/
def decidedState (e : Env) (b : Blocks) (p : Permit) : PermitState :=
  if p.state = .failed then .failed
  else if (permitFeeders e p).any (feederIn b .breakerFail) then .failed
  else if (permitFeeders e p).all (feederIn b .held) then .granted
  else .pending

/-- The PERMIT_STATE notice of a permit as it stands; for FAILED it names the failed feeder (R101). -/
def permitNotice (e : Env) (b : Blocks) (p : Permit) : NoticeBody :=
  .permitState p.number p.state p.secs p.time (if p.state = .failed then failedFeeder e b p else none)

/-- One permit decided again: a change takes the line time and gives its notice (R101). -/
def decidePermit (e : Env) (b : Blocks) (p : Permit) : Blocks :=
  let st := decidedState e b p
  if st = p.state then b
  else
    let q : Permit := { p with state := st, time := e.time }
    say e (permitNotice e b q)
      { b with permits := b.permits.map fun r => if r.number = q.number then q else r }

/-- Every permit naming the section, in the order of the table (R101). -/
def decidePermits (e : Env) (sec : Nat) (b : Blocks) : Blocks :=
  (b.permits.filter fun p => decide (sec ∈ p.secs)).foldl (decidePermit e) b

/-- FC hands SM a change of state of one of a section's feeders (R66 step 4). (DEDUCED, log 15) -/
def feederChanged (e : Env) (sec : Nat) (b : Blocks) : Blocks := decidePermits e sec (deriveSection e sec b)

/-! ## Live on an isolated section (R104) -/

/-- The feeder whose record, read by `sel`, names the channel; R12 lets no two name one. -/
def Blocks.feederBy (b : Blocks) (sel : FeederRec → Nat) (ch : Nat) : Option Nat :=
  (List.range 16).find? fun f => decide ((b.feeder? f).map (fun x : Feeder => sel x.conn) = some ch)

/-- SM judges a walk sample of a line-voltage channel (R104). -/
def liveCheck (e : Env) (ch : Nat) (x : Sample) (b : Blocks) : Blocks :=
  match b.feederBy (·.lineCh) ch with
  | none => b
  | some f =>
    match b.feeder? f with
    | none => b
    | some y =>
      if b.secState y.conn.sec = .isolated ∧ x.cls = .normal then
        if y.conn.settings.vBf ≤ x.value then
          if y.liveArmed then
            say e (.liveOnIsolated y.conn.sec f ch x.value y.state (e.aux f))
              (b.setFeeder f { y with liveArmed := false })
          else b
        else b.setFeeder f { y with liveArmed := true }
      else b

end Sys2Proof.Machine
end

