-- ==== Sys2Proof/Machine/FeederMove.lean ====
section
/-! DEFINITION. A change of a feeder's state or sub-phase: the fields it sets, what PU and SM are told (R65, R66 steps 1 to
4), and the states a feeder enters (R68, R70, R73, R79, R84, R86). -/

namespace Sys2Proof.Machine

open Sys2Proof

/-- The state timer as a feeder enters a state (R68, R73, R77, R79). -/
def stateTimerOn (e : Env) (x : Settings) : FeederState → Option Timer
  | .tripping => some ⟨e.time, x.tTrip⟩
  | .closing => some ⟨e.time, x.tClose⟩
  | .deadTime .timing => some ⟨e.time, x.tDead⟩
  | .lineTest .settle => some ⟨e.time, x.tSettle⟩
  | _ => none

/-- What PU does as a feeder goes from `old` to `new` (R46, R54, R55). -/
def Pu.onChange (e : Env) (tStale : Nat) (old new : FeederState) (p : Pu) : Pu :=
  { p with
    ring := if new = .closed then [] else p.ring
    step := if old = .closed then none else p.step
    stale :=
      if new = .closing then some ⟨e.time, tStale⟩
      else if new.live then p.stale
      else none }

/-- The fields that entering `new` sets: the timers, the flags cleared on leaving CLOSING (R79), the values of OPEN, HELD
(R83, R86) and BREAKER_FAIL (R71, R84), the protection state, and the outputs (R65). A BREAKER_FAIL of a failed close gives role
NONE as one of a failed trip does. (DEDUCED, log 7) -/
def Feeder.enter (e : Env) (new : FeederState) (x : Feeder) : Feeder :=
  let rest := decide (new = .opened ∨ new = .held)
  let idle := rest || decide (new = .breakerFail)
  let drop := idle || decide (x.state = .closing)
  Feeder.driven
    { x with
      state := new
      stateTimer := stateTimerOn e x.conn.settings new
      resetTimer := if new = .closed then some ⟨e.time, x.conn.settings.tReset * 1000⟩ else none
      role := if idle then .none else x.role
      attempts := if rest then 0 else x.attempts
      backfed := if rest then 0 else x.backfed
      openPending := x.openPending && !drop
      closeOntoFault := x.closeOntoFault && !drop
      pu := x.pu.onChange e x.conn.settings.tStale x.state new }

/-- A FEEDER_STATE notice of the feeder as it stands (R66 step 2). -/
def sayFeeder (e : Env) (f : Nat) (b : Blocks) : Blocks :=
  match b.feeder? f with
  | none => b
  | some x => say e (.feederState f x.state x.cause x.attempts x.role) b

/-- FC moves a feeder to `new`, `set` giving the other fields the transition writes and `ns` the notices particular to it
(R66 steps 1 to 4). A recorded leader that ends its sequence loses role and record (R81). (DEDUCED, log 7) -/
def moveFeeder (e : Env) (f : Nat) (new : FeederState) (set : Feeder → Feeder) (ns : List NoticeBody) (b : Blocks) :
    Blocks :=
  match b.feeder? f with
  | none => b
  | some x =>
    let y := set (x.enter e new)
    let leaves := new.endsSequence && decide (b.leader x.conn.sec = some f)
    let y : Feeder := { y with role := if leaves then .none else y.role }
    let b := b.setFeeder f y
    let b := if leaves then setLeader x.conn.sec none b else b
    let b := sayFeeder e f (sayAll e ns b)
    if new.main = x.state.main then b else feederChanged e x.conn.sec b

/-- The cause of a feeder's record. -/
def withCause (c : Cause) (x : Feeder) : Feeder := { x with cause := some c }

/-! ## Entering TRIPPING (R68, R69) -/

/-- The causes whose trip queues a TRIP notice (R68). -/
def Cause.notifies : Cause → Bool
  | .inst | .reverse | .step | .thermal | .degraded | .intertrip | .vehicle | .external => true
  | _ => false

/-- The reclose role of R69. -/
def roleOnTrip (e : Env) (b : Blocks) (f sec : Nat) : RecloseRole :=
  match e.partner f with
  | none => .leader
  | some g => if b.leader sec = some g then .follower else .leader

/-- The role given by a trip, and the leader field written, unless the cause is COMMAND or PERMIT (R69). -/
def giveRole (e : Env) (f : Nat) (c : Cause) (b : Blocks) : Blocks :=
  match b.feeder? f with
  | none => b
  | some x =>
    if c = .command ∨ c = .permit then b
    else
      let r := roleOnTrip e b f x.conn.sec
      let b := b.setFeeder f { x with role := r }
      if r = .leader then setLeader x.conn.sec (some f) b else b

/-- The TRIP notice of a trip with cause `c` (R68). -/
def tripNotices (b : Blocks) (f : Nat) (c : Cause) (sample : Option Sample) : List NoticeBody :=
  match b.feeder? f with
  | none => []
  | some x => if c.notifies then [.trip f c x.pu.theta sample] else []

/-- A feeder enters TRIPPING (R68, R69); `mark` sets the close-onto-fault mark, `ns` are further notices. The completion of a
trip-free case is taken by the caller. -/
def enterTripping (e : Env) (f : Nat) (c : Cause) (mark : Bool) (sample : Option Sample) (ns : List NoticeBody)
    (b : Blocks) : Blocks :=
  moveFeeder e f .tripping (fun x => { withCause c x with closeOntoFault := mark })
    (tripNotices b f c sample ++ ns) (giveRole e f c b)

/-! ## The end of a trip (R70), dead time (R73) -/

/-- The state a feeder enters in place of a dead time while its section is inhibited (R73, R82). -/
def deadOrClear (b : Blocks) (sec : Nat) : FeederState := if 0 < b.inhibit sec then .waitClear else .deadTime .timing

/-- A fresh dead time, or WAIT_CLEAR in its place (R73, R82). -/
def freshDeadTime (e : Env) (f : Nat) (set : Feeder → Feeder) (ns : List NoticeBody) (b : Blocks) : Blocks :=
  match b.feeder? f with
  | none => b
  | some x => moveFeeder e f (deadOrClear b x.conn.sec) set ns b

/-- The next state and cause at the end of a trip: the first row of R70's table that applies. -/
def afterTrip (b : Blocks) (x : Feeder) (c : Cause) : FeederState × Cause :=
  if c = .command then (.opened, .command)
  else if c = .permit then (.held, .permit)
  else if x.closeOntoFault then (.lockout, .closeOntoFault)
  else if c = .degraded then (.lockout, .degraded)
  else if c = .partner then (.lockout, .partner)
  else if c = .vehicle ∨ 0 < b.inhibit x.conn.sec then (.waitClear, c)
  else if x.conn.settings.nRc = 0 then (.lockout, c)
  else (.deadTime .timing, c)

/-- The feeder leaves for the state R70 gives; one that enters WAIT_CLEAR with the inhibit count at 0 leaves it at once for
a fresh dead time (R82). -/
def finishTrip (e : Env) (f : Nat) (c : Cause) (ns : List NoticeBody) (b : Blocks) : Blocks :=
  match b.feeder? f with
  | none => b
  | some x =>
    let (st, c') := afterTrip b x c
    let b := moveFeeder e f st (fun y => { withCause c' y with closeOntoFault := false }) ns b
    if st = .waitClear ∧ b.inhibit x.conn.sec = 0 then freshDeadTime e f id [] b else b

/-- The trip of a TRIPPING feeder completes with the cause it now has (R70). -/
def completeTrip (e : Env) (f : Nat) (b : Blocks) : Blocks :=
  match b.feeder? f with
  | none => b
  | some x => if x.state = .tripping then finishTrip e f (x.cause.getD .command) [] b else b

/-- The trip-free case: a TRIPPING feeder whose contact already reads OPEN completes at once (R68). -/
def completeIfOpen (e : Env) (f : Nat) (b : Blocks) : Blocks := if e.aux f = .opened then completeTrip e f b else b

end Sys2Proof.Machine
end

