-- ==== Sys2Proof/Machine/Inserts.lean ====
section
/-! DEFINITION. The converter link and the Insert Queue (R19, R24, R29 to R31): when SQ asks CLC for a conversion, and how a
request for an insert enters, waits, and is withdrawn. -/

namespace Sys2Proof.Machine

open Sys2Proof

/-! ## Conversions (R19, R24, R30) -/

/-- CLC may begin a transaction: none is in flight, and the 2 ms after a reset have passed (R16, R19). -/
def Clc.free (c : Clc) : Bool := c.inFlight.isNone && c.rest.isNone

/-- The select line of a channel's converter (R19). -/
def converterOf (ch : Nat) : Nat := ch / 8

/-- The one byte of a conversion request, the input of the channel at its converter (R19, chapter Frame and Telegram
Layouts). -/
def conversionRequest (ch : Nat) : List Byte := [BitVec.ofNat 8 (ch % 8)]

/-- SQ issues a conversion request: CLC sends it under its select, and the 2 ms answer expiry starts (R19). -/
def convert (e : Env) (ch : Nat) (owner : ConversionOwner) (b : Blocks) : Blocks :=
  { b with clc := { b.clc with
      inFlight := some ⟨ch, converterOf ch, conversionRequest ch, ⟨e.time, Config.converterExpiryMs⟩, owner⟩ } }

/-- A channel of a feeder's record. -/
def Blocks.channelOf (b : Blocks) (sel : FeederRec → Nat) (f : Nat) : Nat :=
  ((b.feeder? f).map fun x : Feeder => sel x.conn).getD 0

/-- How many conversions an insert makes (the insert table of R29). -/
def Insert.total (i : Insert) : Nat :=
  match i.kind with
  | .test => 2 * i.size
  | _ => i.size

/-- The channel of an insert's next conversion (the insert table of R29). -/
def Insert.nextChannel (b : Blocks) (i : Insert) : Nat :=
  match i.kind with
  | .calibrate => i.who
  | .precheck => b.channelOf (·.lineCh) i.who
  | .test => b.channelOf (if i.results.length % 2 = 0 then (·.busCh) else (·.lineCh)) i.who

/-- The Scan List entry at the pointer. -/
def Sq.entry (q : Sq) : Option ScanEntry := look q.slots q.next

/-- The walk's conversion is requested and the entry passes to CONVERTING (R24). -/
def convertEntry (e : Env) (b : Blocks) : Blocks :=
  match b.sq.entry with
  | none => b
  | some x => convert e x.channel .walk { b with sq := { b.sq with mode := .converting, settle := none } }

/-- The next conversion of the head insert, which is in service (R30). -/
def convertInsert (e : Env) (b : Blocks) : Blocks :=
  match b.sq.inserts with
  | [] => b
  | i :: _ => convert e (i.nextChannel b) .insert { b with sq := { b.sq with serving := true } }

/-- The entry at the pointer begins: its settle delay starts, and a delay of 0 asks for its conversion at once, or as soon
as the link is free (R24). -/
def beginEntry (e : Env) (b : Blocks) : Blocks :=
  match b.sq.entry with
  | none => b
  | some x =>
    let b :=
      { b with sq := { b.sq with
        mode := .settle, settle := if x.settle = 0 then none else some ⟨e.time, x.settle⟩ } }
    if x.settle = 0 ∧ b.clc.free = true then convertEntry e b else b

/-- SQ carries on where the link is free: the entry whose delay has run out, the insert in service, the next insert in
STOPPED and PAUSED, or the entry the walk was held before (R24, R26, R30, R31). -/
def carryOn (e : Env) (b : Blocks) : Blocks :=
  if b.clc.free then
    match b.sq.mode with
    | .converting => b
    | .settle => if b.sq.settle.isNone then convertEntry e b else b
    | .stopped | .paused => convertInsert e b
    | .between => if b.sq.serving then convertInsert e b else beginEntry e b
  else b

/-! ## Entering the queue (R29) -/

/-- The size of an insert, fixed as it enters (R29, R63). -/
def insertSize (b : Blocks) (k : InsertKind) (who : Nat) : Nat :=
  match k with
  | .calibrate => Config.calibrateSize
  | _ => ((b.feeder? who).map fun x : Feeder => x.conn.settings.nLt).getD 0

/-- An insert enters at the tail. In STOPPED and PAUSED the first of an empty queue is served at once (R30). -/
def enterInsert (e : Env) (k : InsertKind) (who : Nat) (b : Blocks) : Blocks :=
  let i : Insert := ⟨k, who, insertSize b k who, []⟩
  let walkless := decide (b.sq.mode = .stopped ∨ b.sq.mode = .paused)
  let first := b.sq.inserts.isEmpty && walkless
  let b := { b with sq := { b.sq with inserts := b.sq.inserts ++ [i], serving := b.sq.serving || first } }
  if first then carryOn e b else b

/-- The queue has a free place (R29). -/
def insertRoom (b : Blocks) : Bool := decide (b.sq.inserts.length < Config.insertMax)

/-- FC's request for an insert: it enters, or waits in the slot wait list (R29). -/
def askInsert (e : Env) (k : InsertKind) (f : Nat) (b : Blocks) : Blocks :=
  if insertRoom b then enterInsert e k f b
  else { b with sq := { b.sq with waiting := b.sq.waiting ++ [⟨k, f⟩] } }

/-- An insert has left the queue: the head of the slot wait list enters it, and FC takes its feeder out of the waiting
sub-phase (R29, R75, R77). -/
def admitWaiter (e : Env) (b : Blocks) : Blocks :=
  match b.sq.waiting with
  | [] => b
  | w :: ws =>
    let b := enterInsert e w.kind w.feeder { b with sq := { b.sq with waiting := ws } }
    moveFeeder e w.feeder (.lineTest (if w.kind = .test then .test else .precheck)) id [] b

/-! ## Withdrawal (R31) -/

/-- The insert is a feeder's line test. -/
def Insert.isLineTestOf (f : Nat) (i : Insert) : Bool := decide (i.kind ≠ .calibrate ∧ i.who = f)

/-- The conversion in flight no longer serves an insert: its result will be discarded (R31). -/
def Clc.discard (c : Clc) : Clc :=
  { c with
    inFlight := c.inFlight.map fun t => { t with owner := if t.owner = .insert then .discarded else t.owner } }

/-- FC withdraws a feeder's line-test request, wherever it stands (R31). -/
def withdrawInsert (e : Env) (f : Nat) (b : Blocks) : Blocks :=
  if b.sq.waiting.any fun w => decide (w.feeder = f) then
    { b with sq := { b.sq with waiting := b.sq.waiting.filter fun w => decide (w.feeder ≠ f) } }
  else
    match b.sq.inserts with
    | [] => b
    | i :: is =>
      if i.isLineTestOf f ∧ b.sq.serving = true then
        carryOn e (admitWaiter e
          { b with sq := { b.sq with inserts := is, serving := false }, clc := b.clc.discard })
      else if (i :: is).any (Insert.isLineTestOf f) then
        admitWaiter e { b with sq := { b.sq with inserts := (i :: is).filter fun j => !j.isLineTestOf f } }
      else b

end Sys2Proof.Machine
end

