-- ==== Sys2Proof/Machine/Feeders.lean ====
section
/-! DEFINITION. Feeder Control (R64 to R89): trips, breaker contacts, dead time, line tests, closing, two-fed sections,
inhibits, covers, and the dispatch requests on feeders. -/

namespace Sys2Proof.Machine

open Sys2Proof

/-! ## The partner of a feeder that has changed state (R81) -/

/-- A feeder enters LINE_TEST and asks for its PRECHECK insert; `set` gives the fields the transition writes (R75). -/
def enterLineTest (e : Env) (f : Nat) (set : Feeder → Feeder) (b : Blocks) : Blocks :=
  askInsert e .precheck f
    (moveFeeder e f (.lineTest (if insertRoom b then .precheck else .waitSlot)) set [] b)

/-- A feeder leaves for `new`, and a line-test request it had is withdrawn (R31, R72, R81 to R83, R86). (DEDUCED, log 9) -/
def leaveSequence (e : Env) (f : Nat) (new : FeederState) (set : Feeder → Feeder) (ns : List NoticeBody) (b : Blocks) :
    Blocks :=
  withdrawInsert e f (moveFeeder e f new set ns b)

/-- What R81 does to the FOLLOWER `g` when its partner ends its sequence. -/
def followerLosesLeader (e : Env) (g : Nat) (y : Feeder) (b : Blocks) : Blocks :=
  match y.state with
  | .deadTime _ | .lineTest _ | .waitClear => leaveSequence e g .lockout (withCause .partner) [] b
  | .tripping => if y.cause = some .permit then b else b.setFeeder g (withCause .partner y)
  | .closing | .closed => b.setFeeder g { y with role := .none }
  | .opened | .lockout | .held | .breakerFail => b

/-- The consequence for a feeder's partner, if it is a FOLLOWER, of the state `f` has entered (R66 step 5, R81). -/
def partnerConsequence (e : Env) (f : Nat) (b : Blocks) : Blocks :=
  match b.feeder? f, e.partner f with
  | some x, some g =>
    match b.feeder? g with
    | none => b
    | some y =>
      if y.role = .follower then
        if x.state.endsSequence then followerLosesLeader e g y b
        else if x.state = .closed ∧ y.state = .deadTime .awaitLeader then enterLineTest e g id b
        else b
      else b
  | _, _ => b

/-! ## Trips (R67 to R71) -/

/-- The trip-free completion of a trip just entered, with its consequence for the partner (R68, R81). -/
def settleTrip (e : Env) (f : Nat) (b : Blocks) : Blocks :=
  if e.aux f = .opened then partnerConsequence e f (completeTrip e f b) else b

/-- A feeder CLOSED or CLOSING is tripped with `c`; in every other state the trip is ignored (R68, R71, R82). -/
def tripLive (e : Env) (f : Nat) (c : Cause) (b : Blocks) : Blocks :=
  match b.feeder? f with
  | none => b
  | some x => if x.state.live then settleTrip e f (enterTripping e f c false none [] b) else b

/-- A trip condition from PU (R67): the close-onto-fault mark in CLOSING, and the intertrip of the partner. (DEDUCED, log 8)
-/
def takeTrip (e : Env) (f : Nat) (c : Cause) (sample : Option Sample) (b : Blocks) : Blocks :=
  match b.feeder? f with
  | none => b
  | some x =>
    if x.state.live then
      let b := enterTripping e f c (decide (x.state = .closing)) sample [] b
      let b :=
        match e.partner f with
        | none => b
        | some g => tripLive e g .intertrip b
      settleTrip e f b
    else b

/-- The other feeders of a feeder's bus that are CLOSED or CLOSING, ascending (R71). -/
def backupList (e : Env) (b : Blocks) (f bus : Nat) : List Nat :=
  (e.busFeeders bus).filter fun g =>
    decide (g ≠ f) && ((b.feeder? g).map (fun x : Feeder => x.state.live)).getD false

/-- T_trip expires in TRIPPING: BREAKER_FAIL, then the partner's consequence and the backup intertrips, in ascending feeder
number (R66 step 5, R71). A partner on the same bus meets its consequence before its intertrip. (DEDUCED, log 46) -/
def tripTimerExpires (f : Nat) (e : Env) (b : Blocks) : Blocks :=
  match b.feeder? f with
  | none => b
  | some x =>
    if x.state = .tripping ∧ timerDue x.stateTimer e.time = true then
      let hit := backupList e b f x.conn.bus
      let b := moveFeeder e f .breakerFail id [.breakerFail f .trip (e.aux f) hit] b
      (List.range 16).foldl
        (fun b g =>
          let b := if e.partner f = some g then partnerConsequence e f b else b
          if g ∈ hit then tripLive e g .intertrip b else b)
        b
    else b

/-! ## Closing (R79, R80) -/

/-- The close completes; an open-pending trips the feeder at once with cause COMMAND (R79). -/
def completeClose (e : Env) (f : Nat) (b : Blocks) : Blocks :=
  match b.feeder? f with
  | none => b
  | some x =>
    let b := partnerConsequence e f (moveFeeder e f .closed id [] b)
    if x.openPending then settleTrip e f (enterTripping e f .command false none [] b) else b

/-- A feeder enters CLOSING; with its contact already CLOSED the close completes at once (R79). -/
def enterClosing (e : Env) (f : Nat) (set : Feeder → Feeder) (ns : List NoticeBody) (b : Blocks) : Blocks :=
  let b := moveFeeder e f .closing set ns b
  if e.aux f = .closed then completeClose e f b else b

/-- T_close expires in CLOSING: BREAKER_FAIL, with no backup intertrip (R79). -/
def closeTimerExpires (f : Nat) (e : Env) (b : Blocks) : Blocks :=
  match b.feeder? f with
  | none => b
  | some x =>
    if x.state = .closing ∧ timerDue x.stateTimer e.time = true then
      partnerConsequence e f (moveFeeder e f .breakerFail id [.breakerFail f .close (e.aux f) []] b)
    else b

/-- T_reset expires in CLOSED: attempt 0, role NONE, the leader field emptied of this feeder, FEEDER_STATE (R80). -/
def resetTimerExpires (f : Nat) (e : Env) (b : Blocks) : Blocks :=
  match b.feeder? f with
  | none => b
  | some x =>
    if x.state = .closed ∧ timerDue x.resetTimer e.time = true then
      let b := b.setFeeder f { x with attempts := 0, role := .none, resetTimer := none }
      let b := if b.leader x.conn.sec = some f then setLeader x.conn.sec none b else b
      sayFeeder e f b
    else b

/-! ## Contact reports (R70, R72) -/

/-- A breaker reported closed in a state where the part had not told it to: CLOSED, cause EXTERNAL, EXTERNAL_CLOSE (R72). -/
def externalClose (e : Env) (f : Nat) (was : FeederState) (b : Blocks) : Blocks :=
  partnerConsequence e f (leaveSequence e f .closed (withCause .external) [.externalClose f was] b)

/-- The contact of a loaded feeder has become CLOSED (R72). (DEDUCED, log 24) -/
def contactCloses (f : Nat) (e : Env) (b : Blocks) : Blocks :=
  match b.feeder? f with
  | none => b
  | some x =>
    match x.state with
    | .closing => completeClose e f b
    | .opened | .lockout | .deadTime _ | .lineTest _ | .waitClear => externalClose e f x.state b
    | .held => enterTripping e f .permit false none [.closedWhileHeld f] b
    | .closed | .tripping | .breakerFail => b

/-- The contact of a loaded feeder has become OPEN (R70, R72): a trip completes, or the breaker has opened of itself. -/
def contactOpens (f : Nat) (e : Env) (b : Blocks) : Blocks :=
  match b.feeder? f with
  | none => b
  | some x =>
    match x.state with
    | .tripping => partnerConsequence e f (completeTrip e f b)
    | .closed =>
      let ns := tripNotices b f .external none
      partnerConsequence e f (finishTrip e f .external ns (giveRole e f .external b))
    | _ => b

/-! ## Dead time (R73, R74) -/

/-- A feeder's dead time has ended: LINE_TEST, or AWAIT_LEADER for a FOLLOWER whose partner is not CLOSED (R74). -/
def deadTimeEnds (e : Env) (f : Nat) (b : Blocks) : Blocks :=
  match b.feeder? f with
  | none => b
  | some x =>
    let partnerClosed := ((e.partner f).map (feederIn b .closed)).getD false
    if x.role = .follower ∧ partnerClosed = false then moveFeeder e f (.deadTime .awaitLeader) id [] b
    else enterLineTest e f id b

/-- T_dead expires in TIMING (R73). -/
def deadTimeExpires (f : Nat) (e : Env) (b : Blocks) : Blocks :=
  match b.feeder? f with
  | none => b
  | some x =>
    if x.state = .deadTime .timing ∧ timerDue x.stateTimer e.time = true then
      if x.cause = some .thermal ∧ x.conn.settings.thetaAlarm ≤ x.pu.theta then
        moveFeeder e f (.deadTime .cooling) id [] b
      else deadTimeEnds e f b
    else b

/-- PU reports θ below θ_alarm: a feeder in COOLING ends its dead time (R48, R73). -/
def cooled (e : Env) (f : Nat) (b : Blocks) : Blocks :=
  if feederIn b (.deadTime .cooling) f then deadTimeEnds e f b else b

/-! ## The line test (R76 to R78) -/

/-- T_settle expires in SETTLE: the TEST insert is asked for (R77). -/
def settleTimerExpires (f : Nat) (e : Env) (b : Blocks) : Blocks :=
  match b.feeder? f with
  | none => b
  | some x =>
    if x.state = .lineTest .settle ∧ timerDue x.stateTimer e.time = true then
      askInsert e .test f
        (moveFeeder e f (.lineTest (if insertRoom b then .test else .waitTestSlot)) id [] b)
    else b

/-- A LOCKOUT that ends a sequence, with its consequence for the partner (R81). -/
def lockOut (e : Env) (f : Nat) (set : Feeder → Feeder) (ns : List NoticeBody) (b : Blocks) : Blocks :=
  partnerConsequence e f (moveFeeder e f .lockout set ns b)

/-- FC takes a precheck result (R76). (DEDUCED, log 33) -/
def takePrecheck (e : Env) (f : Nat) (r : PrecheckResult) (v : Option Int) (b : Blocks) : Blocks :=
  match b.feeder? f with
  | none => b
  | some x =>
    if x.state = .lineTest .precheck then
      let follows := decide (x.role = .follower)
      let backfed := if r = .backfed then (if follows then 0 else min 3 (x.backfed + 1)) else x.backfed
      let note (y : Feeder) : Feeder := { y with lastTest := some ⟨.precheck r v, e.time⟩, backfed := backfed }
      let ns : List NoticeBody := [.precheckResult f r v x.attempts backfed]
      match r with
      | .passed => moveFeeder e f (.lineTest .settle) note ns b
      | .backfed =>
        if follows then enterClosing e f note ns b
        else if backfed = 3 then lockOut e f (fun y => withCause .backfed (note y)) ns b
        else freshDeadTime e f note ns b
      | .invalid => lockOut e f (fun y => withCause .testInvalid (note y)) ns b
    else b

/-- FC takes the outcome of a test (R78). -/
def takeTest (e : Env) (f : Nat) (cls : TestClass) (r rEff : Int) (out : TestOutcome) (occupancy : Nat) (b : Blocks) :
    Blocks :=
  match b.feeder? f with
  | none => b
  | some x =>
    if x.state = .lineTest .test then
      let nRc := x.conn.settings.nRc
      let attempts := if out = .faulty ∧ x.attempts < nRc then x.attempts + 1 else x.attempts
      let note (y : Feeder) : Feeder := { y with lastTest := some ⟨.test cls r out, e.time⟩, attempts := attempts }
      let ns : List NoticeBody := [.testResult f cls r rEff occupancy attempts]
      match out with
      | .healthy => enterClosing e f (fun y => { note y with backfed := 0 }) ns b
      | .faulty => if attempts < nRc then freshDeadTime e f note ns b else lockOut e f note ns b
      | .invalid => lockOut e f (fun y => withCause .testInvalid (note y)) ns b
    else b

/-! ## Inhibit, cover, uncover (R82, R83) -/

/-- An action of SM on each feeder of a section, in ascending number, as R174 gives it for a section trip; R82 gives no order
for a rise or a return of the inhibit count, R83 none for a cover. (DESIGN CHOICE, log 45) (DEDUCED, log 10) -/
def onSectionFeeders (e : Env) (sec : Nat) (act : Nat → Feeder → Blocks → Blocks) (b : Blocks) : Blocks :=
  (e.feedersOf sec).foldl
    (fun b f =>
      match b.feeder? f with
      | none => b
      | some x => act f x b)
    b

/-- The inhibit count has risen from 0 (R82). -/
def inhibitRises (e : Env) (sec : Nat) : Blocks → Blocks :=
  onSectionFeeders e sec fun f x b =>
    match x.state with
    | .deadTime _ | .lineTest _ => leaveSequence e f .waitClear id [] b
    | _ => b

/-- The inhibit count has returned to 0 (R82). -/
def inhibitReturns (e : Env) (sec : Nat) : Blocks → Blocks :=
  onSectionFeeders e sec fun f x b => if x.state = .waitClear then freshDeadTime e f id [] b else b

/-- The section is covered by a permit (R83). The cover is one event for both feeders: neither is moved again for the
other's entry into HELD (R81). (DEDUCED, log 10) (DEDUCED, log 11) -/
def cover (e : Env) (sec : Nat) : Blocks → Blocks :=
  onSectionFeeders e sec fun f x b =>
    match x.state with
    | .closed | .closing => completeIfOpen e f (enterTripping e f .permit false none [] b)
    | .opened | .lockout | .deadTime _ | .lineTest _ | .waitClear => leaveSequence e f .held (withCause .permit) [] b
    | .tripping => b.setFeeder f (withCause .permit x)
    | .held | .breakerFail => b

/-- The section is uncovered (R83). (DEDUCED, log 10) (DEDUCED, log 11) -/
def uncover (e : Env) (sec : Nat) : Blocks → Blocks :=
  onSectionFeeders e sec fun f x b =>
    match x.state with
    | .held => moveFeeder e f .opened id [] b
    | .tripping => if x.cause = some .permit then b.setFeeder f (withCause .command x) else b
    | _ => b

/-! ## Requests (R84 to R89) -/

/-- CLOSE_FEEDER is taken in OPEN and LOCKOUT (R85). -/
def closeRequested (e : Env) (f : Nat) (b : Blocks) : Blocks :=
  let partnerClosed := ((e.partner f).map (feederIn b .closed)).getD false
  enterLineTest e f
    (fun x =>
      { withCause .command x with
        attempts := 0, backfed := 0, role := if partnerClosed then .follower else .leader })
    b

def answerCloseFeeder (f : Nat) (s : State) : Answer :=
  naming s.blocks.feeders f fun x =>
    match x.state with
    | .closed => { code := .done }
    | .breakerFail => refuse .failedState
    | .held => refuse .held
    | .closing | .tripping | .deadTime _ | .lineTest _ | .waitClear => refuse .busy
    | .opened | .lockout =>
      if 0 < s.blocks.inhibit x.conn.sec then refuse .vehicleFault
      else effect .accepted fun e => closeRequested e f

def answerOpenFeeder (f : Nat) (s : State) : Answer :=
  naming s.blocks.feeders f fun x =>
    match x.state with
    | .closed => effect .accepted fun e b => settleTrip e f (enterTripping e f .command false none [] b)
    | .closing => effect .accepted fun _ b => b.amendFeeder f fun x => { x with openPending := true }
    | .deadTime _ | .lineTest _ | .waitClear | .lockout =>
      effect .done fun e b => partnerConsequence e f (leaveSequence e f .opened (withCause .command) [] b)
    | .opened | .held | .tripping => { code := .done }
    | .breakerFail => refuse .failedState

/-- The fields RESET_FEEDER sets: attempt 0, role NONE (R84). -/
def freshFeeder (c : Cause) (x : Feeder) : Feeder := { withCause c x with attempts := 0, role := .none }

/-- RESET_FEEDER in BREAKER_FAIL (R84); in a covered section HELD has cause PERMIT. (DEDUCED, log 11) -/
def resetFailed (f : Nat) (sec : Nat) (e : Env) (b : Blocks) : Blocks :=
  match e.aux f, b.covered sec with
  | .opened, false => partnerConsequence e f (moveFeeder e f .opened (freshFeeder .command) [] b)
  | .opened, true => partnerConsequence e f (moveFeeder e f .held (freshFeeder .permit) [] b)
  | .closed, false => partnerConsequence e f (moveFeeder e f .closed (freshFeeder .command) [] b)
  | .closed, true => moveFeeder e f .tripping (freshFeeder .permit) [] b

def answerResetFeeder (f : Nat) (s : State) : Answer :=
  naming s.blocks.feeders f fun x =>
    match x.state with
    | .breakerFail => effect .done (resetFailed f x.conn.sec)
    | .lockout => effect .done fun e b => partnerConsequence e f (moveFeeder e f .opened (withCause .command) [] b)
    | _ => refuse .wrongState

/-- SET_PROTECTION's effect on a feeder (R54, R58, R88). -/
def protect (new : Settings) (f : Nat) (e : Env) (b : Blocks) : Blocks :=
  match b.feeder? f with
  | none => b
  | some x =>
    let old := x.conn.settings
    let step := if new.w = old.w ∧ new.dIset = old.dIset then x.pu.step else none
    let b := b.setFeeder f
      { x with
        conn := { x.conn with settings := new }, pu := { x.pu with step := step }
        attempts := min new.nRc x.attempts }
    if new.nRc < x.attempts then sayFeeder e f b else b

/-- SET_PROTECTION replaces the settings whole, in the running record and in the loaded one (R2, R88). (DEDUCED, log 22) -/
def answerSetProtection (f : Nat) (a : ProtectionArgs) (s : State) : Answer :=
  naming s.blocks.feeders f fun _ =>
    match readProtection a with
    | none => refuse .badArgument
    | some (new, clamped) =>
      { code := .done, clamped := clamped
        after := fun s =>
          { s with net := { s.net with feeders := amend s.net.feeders f fun x => { x with settings := new } } }.onBlocks
            (protect new f) }

/-- The record READ_FEEDER reports (R89). -/
def feederReport (s : State) (f : Nat) (x : Feeder) : FeederReport where
  number := f
  feeder := x
  contact := s.env.aux f
  stateLeft := timerLeft x.stateTimer s.time
  resetLeft := timerLeft x.resetTimer s.time
  currentLatest := look s.blocks.sq.latest x.conn.currentCh
  busLatest := look s.blocks.sq.latest x.conn.busCh
  lineLatest := look s.blocks.sq.latest x.conn.lineCh
  secState := s.blocks.secState x.conn.sec
  leader := s.blocks.leader x.conn.sec

def answerReadFeeder (f : Nat) (s : State) : Answer :=
  naming s.blocks.feeders f fun x => { code := .done, result := .feeder (feederReport s f x) }

/-! ## The commands -/

def execCloseFeeder (p : Port) (tag f : Nat) (s : State) : Host.Outcome State Fault Refusal :=
  .next (takeRequest p tag .closeFeeder (answerCloseFeeder f) s)

def execOpenFeeder (p : Port) (tag f : Nat) (s : State) : Host.Outcome State Fault Refusal :=
  .next (takeRequest p tag .openFeeder (answerOpenFeeder f) s)

def execResetFeeder (p : Port) (tag f : Nat) (s : State) : Host.Outcome State Fault Refusal :=
  .next (takeRequest p tag .resetFeeder (answerResetFeeder f) s)

def execSetProtection (p : Port) (tag f : Nat) (a : ProtectionArgs) (s : State) : Host.Outcome State Fault Refusal :=
  .next (takeRequest p tag .setProtection (answerSetProtection f a) s)

def execReadFeeder (p : Port) (tag f : Nat) (s : State) : Host.Outcome State Fault Refusal :=
  .next (takeRequest p tag .readFeeder (answerReadFeeder f) s)

/-- The auxiliary contact of a breaker reports (R3, R5, R64): the input is followed in CONFIG and RUN; in RUN a change at a
loaded feeder is an event of FC. -/
def reportContact (f : Nat) (c : Contact) (act : Nat → Env → Blocks → Blocks) (s : State) : State :=
  let t := { s with pins := { s.pins with aux := s.pins.aux.setIfInBounds f c } }
  t.inRun fun e b => if s.env.aux f = e.aux f then b else act f e b

def execContactReportOpen (f : Nat) (s : State) : Host.Outcome State Fault Refusal :=
  .next (reportContact f .opened contactOpens s)

def execContactReportClosed (f : Nat) (s : State) : Host.Outcome State Fault Refusal :=
  .next (reportContact f .closed contactCloses s)

def execTripTimerExpiry (f : Nat) (s : State) : Host.Outcome State Fault Refusal := .next (s.inRun (tripTimerExpires f))

def execCloseTimerExpiry (f : Nat) (s : State) : Host.Outcome State Fault Refusal := .next (s.inRun (closeTimerExpires f))

def execDeadTimeExpiry (f : Nat) (s : State) : Host.Outcome State Fault Refusal := .next (s.inRun (deadTimeExpires f))

def execSettleTimerExpiry (f : Nat) (s : State) : Host.Outcome State Fault Refusal :=
  .next (s.inRun (settleTimerExpires f))

def execResetTimerExpiry (f : Nat) (s : State) : Host.Outcome State Fault Refusal := .next (s.inRun (resetTimerExpires f))

end Sys2Proof.Machine
end

