-- ==== Sys2Proof/Machine/Protection.lean ====
section
/-! DEFINITION. The Protection Unit (R43 to R63): a current sample, staleness, the DEGRADED condition, and what a completed
line test hands to FC. -/

namespace Sys2Proof.Machine

open Sys2Proof

/-- PU writes its values of a feeder. -/
def amendPu (f : Nat) (g : Pu → Pu) (b : Blocks) : Blocks := b.amendFeeder f fun x => { x with pu := g x.pu }

/-- The DEGRADED condition, by the feeder's degrade policy (R56). -/
def degraded (e : Env) (f : Nat) (r : DegradeReason) (sample : Option Sample) (b : Blocks) : Blocks :=
  match b.feeder? f with
  | none => b
  | some x =>
    match x.conn.settings.policy with
    | .trip => takeTrip e f .degraded sample b
    | .hold =>
      if x.pu.degradeArmed then
        say e (.protectionDegraded f r x.pu.invalidRun)
          (b.setFeeder f { x with pu := { x.pu with degradeArmed := false } })
      else b

/-- The stale timer expires (R55). -/
def staleExpires (f : Nat) (e : Env) (b : Blocks) : Blocks :=
  match b.feeder? f with
  | none => b
  | some x =>
    if timerDue x.pu.stale e.time then degraded e f .stale none (amendPu f (fun p => { p with stale := none }) b) else b

/-- An INVALID current sample (R45). -/
def invalidSample (e : Env) (f : Nat) (sample : Sample) (b : Blocks) : Blocks :=
  match b.feeder? f with
  | none => b
  | some x =>
    let run := min 255 (x.pu.invalidRun + 1)
    let b := b.setFeeder f { x with pu := { x.pu with invalidRun := run } }
    if x.state.live ∧ 3 ≤ run then degraded e f .invalid (some sample) b else b

/-- Step 2 of R44: the invalid run, the stale timer (R55), the re-arming of the degraded notice (R56), the ring (R46). -/
def Pu.takeSample (e : Env) (x : Feeder) (i : Sample) (p : Pu) : Pu :=
  { p with
    invalidRun := 0
    stale := if x.state.live then some ⟨e.time, x.conn.settings.tStale⟩ else p.stale
    degradeArmed := p.degradeArmed || decide (i.cls = .normal)
    ring := pushRing p.ring ⟨i.value, e.time⟩ }

/-- Step 3 of R44: θ, THERMAL_ALARM, and the report to FC (R47, R48). -/
def heat (e : Env) (f : Nat) (i : Sample) (b : Blocks) : Blocks :=
  match b.feeder? f with
  | none => b
  | some x =>
    let theta := thermalStep x.conn.settings.k x.pu.theta i.value
    let below := decide (theta < x.conn.settings.thetaAlarm)
    let b := b.setFeeder f { x with pu := { x.pu with theta := theta, alarmArmed := below } }
    let b := if !below && x.pu.alarmArmed then say e (.thermalAlarm f theta x.conn.settings.thetaAlarm) b else b
    if below then cooled e f b else b

/-- The trip cause of a sample, the first met of INST, REVERSE, STEP and THERMAL (R44 steps 4 to 7). -/
def tripCause (x : Settings) (i : Sample) (stepMet : Bool) (theta : Int) : Option Cause :=
  if meetsInst x i then some .inst
  else if meetsReverse x i then some .reverse
  else if stepMet then some .step
  else if meetsThermal x theta then some .thermal
  else none

/-- Steps 4 to 7 of R44 on a feeder that is CLOSING or CLOSED. -/
def testCriteria (e : Env) (f : Nat) (i : Sample) (b : Blocks) : Blocks :=
  match b.feeder? f with
  | none => b
  | some x =>
    if x.state.live then
      let (step, met) :=
        if x.state = .closed then stepCriterion x.conn.settings x.pu.ring x.pu.step e.time i.value
        else (x.pu.step, false)
      let b := b.setFeeder f { x with pu := { x.pu with step := step } }
      match tripCause x.conn.settings i met x.pu.theta with
      | none => b
      | some c => takeTrip e f c (some i) b
    else b

/-- A current sample of a feeder (R44). -/
def currentSample (e : Env) (f : Nat) (i : Sample) (b : Blocks) : Blocks :=
  match b.feeder? f with
  | none => b
  | some x =>
    if i.cls = .invalid then invalidSample e f i b
    else testCriteria e f i (heat e f i (amendPu f (Pu.takeSample e x i) b))

/-- The samples of a completed PRECHECK go to PU, and its result to FC (R59, R63). -/
def finishPrecheck (e : Env) (f : Nat) (ss : List Sample) (b : Blocks) : Blocks :=
  match b.feeder? f with
  | none => b
  | some x =>
    let (r, v) := precheckOf x.conn.settings.vBf ss
    takePrecheck e f r v b

/-- The samples of a completed TEST go to PU, and its outcome to FC (R60 to R63). The occupancy handed to FC, and by it
reported, is the count as it stands, also where R62 takes it as 3 for R_eff. (DESIGN CHOICE, log 48) -/
def finishTest (e : Env) (f : Nat) (ss : List Sample) (b : Blocks) : Blocks :=
  match b.feeder? f with
  | none => b
  | some x =>
    let occupancy := ((b.section? x.conn.sec).map fun y : SectionRec => y.occupancy).getD 0
    let (cls, r) := testClassOf x.conn.settings.rT (evens ss) (odds ss)
    let rEff := effectiveR x.conn.settings.rMin occupancy
    takeTest e f cls r rEff (outcomeOf cls r rEff) occupancy b

/-- The stale timer of a feeder expires (R55). -/
def execStaleTimerExpiry (f : Nat) (s : State) : Host.Outcome State Fault Refusal := .next (s.inRun (staleExpires f))

end Sys2Proof.Machine
end

