-- ==== Sys2Proof/Machine/Scan.lean ====
section
/-! DEFINITION. Measurement scanning (R19 to R40): the ends of converter transactions, the handling of a walk result and of
an insert's results, window monitors, calibration, the Measurement Queue, and the requests on them. -/

namespace Sys2Proof.Machine

open Sys2Proof

/-! ## The Measurement Queue (R37, R38) -/

/-- MEAS_READY when the queue holds at least the threshold while the flag is set; the flag is cleared (R38). -/
def announceMeasurements (e : Env) (b : Blocks) : Blocks :=
  if b.mq.armed = true ∧ b.mq.threshold ≤ b.mq.records.length then
    say e (.measReady b.mq.records.length) { b with mq := { b.mq with armed := false } }
  else b

/-- The flag is set again when the queue holds fewer records than the threshold (R38). -/
def Mq.rearm (m : Mq) : Mq := { m with armed := m.armed || decide (m.records.length < m.threshold) }

/-- A record at the tail; a full queue first loses its oldest, and the overflow flag is set (R37). -/
def Mq.append (r : MeasRecord) (m : Mq) : Mq :=
  { m with
    records := (if m.records.length < Config.measurementMax then m.records else m.records.tail) ++ [r]
    overflow := m.overflow || decide (Config.measurementMax ≤ m.records.length) }

/-! ## A walk result (R25, R32 to R34) -/

/-- A current channel is one that a loaded feeder names as its current channel (R21). -/
def isCurrent (b : Blocks) (ch : Nat) : Bool := (b.feederBy (·.currentCh) ch).isSome

/-- The current offset of a channel; a voltage channel has none (R41). -/
def offsetOf (b : Blocks) (ch : Nat) : Int :=
  (((b.feederBy (·.currentCh) ch).bind b.feeder?).map fun x : Feeder => x.pu.offset).getD 0

/-- The classified sample of a converter result (R41). -/
def sampleOf (b : Blocks) (ch : Nat) (valid : Bool) (code : Int) : Sample :=
  classify (isCurrent b ch) (offsetOf b ch) valid code

/-- The window monitor of the entry at the pointer (R32 to R34). -/
def runMonitor (e : Env) (i : Nat) (x : Sample) (b : Blocks) : Blocks :=
  match look b.sq.slots i with
  | none => b
  | some en =>
    let held :=
      match en.binding with
      | none => false
      | some sec => decide (b.secState sec ≠ .energised)
    if x.cls = .invalid ∨ held = true then b
    else
      let new := monitorStep en x.value
      let note (d : CrossDir) : LimitContent := ⟨i, en.channel, x.cls, x.value, d, b.sq.cycles⟩
      let b' := { b with sq := { b.sq with slots := put b.sq.slots i { en with crossing := new } } }
      let tell (on : Bool) (b : Blocks) : Blocks :=
        match en.binding with
        | none => b
        | some sec => setLowVoltage e sec on b
      match en.crossing, new with
      | none, some d => tell true (say e (.limitCrossed (note d)) b')
      | some d, none => tell false (say e (.limitCleared (note d)) b')
      | _, _ => b'

/-- A measurement record of the entry at the pointer, if it asks for one (R25 step 6, R37). -/
def recordSample (e : Env) (en : ScanEntry) (x : Sample) (b : Blocks) : Blocks :=
  if en.record then
    announceMeasurements e
      { b with mq := b.mq.append ⟨b.sq.next, en.channel, x.cls, x.value, e.time, b.sq.cycles⟩ }
  else b

/-- The entry in progress is complete: what follows, by R26. -/
def completeEntry (e : Env) (en : ScanEntry) (b : Blocks) : Blocks :=
  let done := b.sq.next
  let wraps := decide (b.sq.length ≤ done + 1)
  let q : Sq :=
    { b.sq with
      next := if wraps then 0 else done + 1
      cycles := if wraps then b.sq.cycles + 1 else b.sq.cycles }
  if q.stopPending then carryOn e { b with sq := { q with mode := .stopped, stopPending := false } }
  else if en.pause then
    carryOn e (say e (.scanPaused done q.next) { b with sq := { q with mode := .paused } })
  else if q.inserts = [] then beginEntry e { b with sq := q }
  else carryOn e { b with sq := { q with mode := .between, serving := true } }

/-- The result of the entry in progress, in the order of R25, and the entry's completion. -/
def walkResult (e : Env) (ch : Nat) (valid : Bool) (code : Int) (b : Blocks) : Blocks :=
  match b.sq.entry with
  | none => b
  | some en =>
    let x := sampleOf b ch valid code
    let b := { b with sq := { b.sq with latest := put b.sq.latest ch ⟨x.cls, x.value, e.time⟩ } }
    let b :=
      match b.feederBy (·.currentCh) ch with
      | none => b
      | some f => currentSample e f x b
    completeEntry e en (recordSample e en x (runMonitor e b.sq.next x (liveCheck e ch x b)))

/-! ## An insert's results (R30, R36) -/

/-- A calibration completes (R36). -/
def finishCalibration (e : Env) (ch : Nat) (rs : List KeptResult) (b : Blocks) : Blocks :=
  match calFailure rs with
  | some r => say e (.calFailed ch r) b
  | none =>
    let off := calOffset rs
    let b :=
      match b.feederBy (·.currentCh) ch with
      | none => b
      | some f => amendPu f (fun p => { p with offset := off }) b
    say e (.calDone ch off) b

/-- The kept results of a completed insert go to PU, and its outcome to FC (R30). -/
def deliver (e : Env) (i : Insert) (b : Blocks) : Blocks :=
  match i.kind with
  | .precheck => finishPrecheck e i.who (i.results.map (·.sample)) b
  | .test => finishTest e i.who (i.results.map (·.sample)) b
  | .calibrate => finishCalibration e i.who i.results b

/-- The two inserts are the same request (R29). -/
def Insert.same (i j : Insert) : Bool := decide (i.kind = j.kind ∧ i.who = j.who)

/-- The insert in service has its last result: it is delivered and leaves the queue, and SQ carries on (R30). -/
def completeInsert (e : Env) (i : Insert) (b : Blocks) : Blocks :=
  let b := deliver e i b
  carryOn e (admitWaiter e
    { b with sq := { b.sq with inserts := b.sq.inserts.filter fun j => !i.same j, serving := false } })

/-- The calibrated channel's feeder is live as a result arrives (R36). -/
def liveNow (b : Blocks) (ch : Nat) : Bool :=
  (((b.feederBy (·.currentCh) ch).bind b.feeder?).map fun x : Feeder => x.state.calLive).getD false

/-- A result of the insert in service is kept with it (R30). -/
def insertResult (e : Env) (ch : Nat) (valid : Bool) (code : Int) (b : Blocks) : Blocks :=
  match b.sq.inserts with
  | [] => b
  | i :: is =>
    let r : KeptResult := ⟨code, valid, sampleOf b ch valid code, liveNow b ch⟩
    let i : Insert := { i with results := i.results ++ [r] }
    let b := { b with sq := { b.sq with inserts := i :: is } }
    if i.results.length < i.total then carryOn e b else completeInsert e i b

/-! ## The end of a converter transaction (R19, R20) -/

/-- A converter's presence after a transaction; a change is noticed (R20). -/
def setPresence (e : Env) (c : Nat) (p : Presence) (b : Blocks) : Blocks :=
  if b.clc.presence[c]? = some p then b
  else say e (.converterFault c p) { b with clc := { b.clc with presence := b.clc.presence.setIfInBounds c p } }

/-- The transaction in flight ends: presence first, then the result event by its owner (R19, R31). (DEDUCED, log 31) -/
def endConversion (e : Env) (t : Conversion) (presence : Option Presence) (valid : Bool) (code : Int) (b : Blocks) :
    Blocks :=
  let b := { b with clc := { b.clc with inFlight := none } }
  let b :=
    match presence with
    | none => b
    | some p => setPresence e (converterOf t.channel) p b
  match t.owner with
  | .walk => walkResult e t.channel valid code b
  | .insert => insertResult e t.channel valid code b
  | .discarded => carryOn e b

/-- The channel, raw code and status of a converter answer that passes its link check (R199). -/
def readAnswer (bytes : List Byte) : Option (Nat × Int × Bool) :=
  match bytes with
  | [ch, hi, lo, st, _, _] =>
    if checkOk bytes ∧ st.toNat ≤ 1 then some (ch.toNat, (hi ++ lo).toInt, decide (st.toNat = 1)) else none
  | _ => none

/-- An answer arrives: discarded unless it passes its check and names the channel in flight (R19). -/
def takeAnswer (bytes : List Byte) (e : Env) (b : Blocks) : Blocks :=
  match b.clc.inFlight, readAnswer bytes with
  | some t, some (ch, code, valid) =>
    if ch = t.channel then endConversion e t (if valid then some .present else none) valid code b else b
  | _, _ => b

/-- The 2 ms expiry ends the transaction: not VALID, code 0, converter FAILED (R19, R20). -/
def conversionExpires (e : Env) (b : Blocks) : Blocks :=
  match b.clc.inFlight with
  | none => b
  | some t => if t.expiry.due e.time then endConversion e t (some .failed) false 0 b else b

/-- The settle delay of the entry in progress runs out (R24). -/
def scanSettles (e : Env) (b : Blocks) : Blocks :=
  if b.sq.mode = .settle ∧ timerDue b.sq.settle e.time = true then
    carryOn e { b with sq := { b.sq with settle := none } }
  else b

/-! ## WRITE_SCAN (R22) -/

/-- The slots with the entries written from `first` on. -/
def writeSlots (first : Nat) (es : List ScanEntry) (slots : Vector (Option ScanEntry) 48) :
    Vector (Option ScanEntry) 48 :=
  es.zipIdx.foldl (fun v p => put v (first + p.2) p.1) slots

/-- The slots with every limit state at or above the length INSIDE (R22). -/
def clearAbove (len : Nat) (slots : Vector (Option ScanEntry) 48) : Vector (Option ScanEntry) 48 :=
  (List.range 48).foldl (fun v i => if len ≤ i then amend v i fun x => { x with crossing := none } else v) slots

/-- The sections to which the slots below the length are bound, in slot order. -/
def boundSections (len : Nat) (slots : Vector (Option ScanEntry) 48) : List Nat :=
  (List.range len).filterMap fun i => (look slots i).bind fun x : ScanEntry => x.binding

/-- The whole-list checks of R22 after a write. -/
def listStands (len : Nat) (slots : Vector (Option ScanEntry) 48) : Bool :=
  (List.range len).all (fun i => (look slots i).isSome) && decide (boundSections len slots).Nodup

/-- The entry at slot `i` was CROSSED and bound, and the write leaves it INSIDE: the section it was bound to. -/
def releasedBinding (old new : Vector (Option ScanEntry) 48) (i : Nat) : Option Nat :=
  match look old i with
  | none => none
  | some x =>
    if x.crossing.isSome ∧ ((look new i).bind fun y : ScanEntry => y.crossing).isNone then x.binding else none

/-- A WRITE_SCAN taken: slots, length, pointer, LOW_VOLTAGE of the sections whose monitor it makes INSIDE (R22). Where it
makes several INSIDE, their sections are cleared and noticed in ascending slot order (R22, R93). (DESIGN CHOICE, log 41) -/
def writeList (first len : Nat) (es : List ScanEntry) (e : Env) (b : Blocks) : Blocks :=
  let old := b.sq.slots
  let new := clearAbove len (writeSlots first es old)
  let paused := decide (b.sq.mode = .paused)
  let q : Sq :=
    { b.sq with
      slots := new, length := len
      next := if paused ∧ len ≤ b.sq.next then 0 else b.sq.next
      mode := if paused ∧ len = 0 then .stopped else b.sq.mode }
  ((List.range 48).filterMap (releasedBinding old new)).foldl (fun b sec => setLowVoltage e sec false b) { b with sq := q }

/-- Entries that R22 takes, with the sections they are bound to; none where a BAD_ARGUMENT check refuses one. -/
def readEntries (b : Blocks) (entries : List ScanArgs) : Option (List ScanEntry) :=
  entries.mapM fun a => readScanEntry (isCurrent b a.channel) a

/-- WRITE_SCAN's own checks, in the order of R22: BUSY, BAD_ARGUMENT, NO_SUCH. (DEDUCED, log 23) -/
def answerWriteScan (entries : List ScanArgs) (first len : Nat) (s : State) : Answer :=
  match s.blocks.sq.mode with
  | .settle | .converting | .between => refuse .busy
  | .stopped | .paused =>
    if 48 < first + entries.length ∨ 8 < entries.length ∨ 48 < len then refuse .badArgument
    else
      match readEntries s.blocks entries with
      | none => refuse .badArgument
      | some es =>
        if listStands len (writeSlots first es s.blocks.sq.slots) then
          if es.all fun x =>
              match x.binding with
              | none => true
              | some sec => (s.blocks.section? sec).isSome
          then effect .done (writeList first len es)
          else refuse .noSuch
        else refuse .badArgument

/-! ## The walk's requests (R23, R27, R28) -/

/-- The walk goes on at the pointer: at once, or when the insert in service completes (R23, R28). -/
def walkOn (e : Env) (b : Blocks) : Blocks :=
  if b.sq.serving then { b with sq := { b.sq with mode := .between } } else beginEntry e b

def answerStartScan (s : State) : Answer :=
  match s.blocks.sq.mode with
  | .settle | .converting | .between => refuse .busy
  | .paused => refuse .wrongState
  | .stopped =>
    if s.blocks.sq.length = 0 then refuse .badArgument
    else effect .done fun e b => walkOn e { b with sq := { b.sq with next := 0 } }

/-- STOP_SCAN (R27). Between two entries it is DONE and STOPPED at once, also where the insert served there was withdrawn and
its conversion still runs. (DEDUCED, log 42) -/
def answerStopScan (s : State) : Answer :=
  match s.blocks.sq.mode with
  | .settle | .converting => effect .accepted fun _ b => { b with sq := { b.sq with stopPending := true } }
  | .between | .paused => effect .done fun _ b => { b with sq := { b.sq with mode := .stopped } }
  | .stopped => { code := .done }

def answerResumeScan (s : State) : Answer :=
  match s.blocks.sq.mode with
  | .paused => effect .done walkOn
  | _ => refuse .wrongState

/-! ## Calibration, threshold, records (R35, R38, R39) -/

def answerCalibrate (ch : Nat) (s : State) : Answer :=
  if 48 ≤ ch ∨ isCurrent s.blocks ch = false then refuse .badArgument
  else if liveNow s.blocks ch then refuse .live
  else if s.blocks.sq.inserts.any (Insert.same ⟨.calibrate, ch, 0, []⟩) then refuse .busy
  else if insertRoom s.blocks then effect .accepted fun e => enterInsert e .calibrate ch
  else refuse .full

def answerSetMqThreshold (n : Nat) (_ : State) : Answer :=
  if n = 0 ∨ Config.measurementMax < n then refuse .badArgument
  else
    effect .done fun e b =>
      let m : Mq := { b.mq with threshold := n }
      if b.mq.armed then announceMeasurements e { b with mq := m } else { b with mq := m.rearm }

def answerReadMeasurements (n : Nat) (s : State) : Answer :=
  if n = 0 ∨ 8 < n then refuse .badArgument
  else
    let m := s.blocks.mq
    effect .done
      (fun _ b =>
        { b with mq := Mq.rearm { b.mq with records := b.mq.records.drop n, overflow := false } })
      (.measurements (m.records.take n) (decide (n < m.records.length)) m.overflow)

/-! ## The commands -/

def execWriteScan (p : Port) (tag : Nat) (entries : List ScanArgs) (first len : Nat) (s : State) :
    Host.Outcome State Fault Refusal :=
  .next (takeRequest p tag .writeScan (answerWriteScan entries first len) s)

def execStartScan (p : Port) (tag : Nat) (s : State) : Host.Outcome State Fault Refusal :=
  .next (takeRequest p tag .startScan answerStartScan s)

def execStopScan (p : Port) (tag : Nat) (s : State) : Host.Outcome State Fault Refusal :=
  .next (takeRequest p tag .stopScan answerStopScan s)

def execResumeScan (p : Port) (tag : Nat) (s : State) : Host.Outcome State Fault Refusal :=
  .next (takeRequest p tag .resumeScan answerResumeScan s)

def execCalibrate (p : Port) (tag ch : Nat) (s : State) : Host.Outcome State Fault Refusal :=
  .next (takeRequest p tag .calibrate (answerCalibrate ch) s)

def execSetMqThreshold (p : Port) (tag n : Nat) (s : State) : Host.Outcome State Fault Refusal :=
  .next (takeRequest p tag .setMqThreshold (answerSetMqThreshold n) s)

def execReadMeasurements (p : Port) (tag n : Nat) (s : State) : Host.Outcome State Fault Refusal :=
  .next (takeRequest p tag .readMeasurements (answerReadMeasurements n) s)

def execScanSettleExpiry (s : State) : Host.Outcome State Fault Refusal := .next (s.inRun scanSettles)

def execConverterAnswer (a : ConverterAnswer) (s : State) : Host.Outcome State Fault Refusal :=
  .next (s.inRun (unlessLate a.late (takeAnswer a.bytes)))

def execConverterAnswerExpiry (s : State) : Host.Outcome State Fault Refusal := .next (s.inRun conversionExpires)

end Sys2Proof.Machine
end

