-- ==== Sys2Proof/Machine/Network.lean ====
section
/-! DEFINITION. The network description and the device states (R1 to R18): loads, START_RUN with its checks, derived lists
and first states, RESTART, the power-on reset, and line time. -/

namespace Sys2Proof.Machine

open Sys2Proof

/-! ## Loads (R4, R6 to R11) -/

/-- A load taken: DONE, with the CLAMPED flag, and the tables written. -/
def loadInto (clamped : Bool) (g : NetTables → NetTables) : Answer :=
  { code := .done, clamped := clamped, after := fun s => { s with net := g s.net } }

def answerLoadNetwork (a : NetworkArgs) (_ : State) : Answer :=
  match readNetwork a with
  | none => refuse .badArgument
  | some (r, clamped) => loadInto clamped fun t => { t with network := some r }

def answerLoadSection (sec : Nat) (_ : State) : Answer :=
  if sec < 24 then loadInto false fun t => { t with sections := put t.sections sec () } else refuse .badArgument

def answerLoadFeeder (a : FeederArgs) (_ : State) : Answer :=
  match readFeederRec a with
  | none => refuse .badArgument
  | some (r, clamped) => loadInto clamped fun t => { t with feeders := put t.feeders a.feeder r }

def answerLoadDetector (det sideA sideB : Nat) (_ : State) : Answer :=
  match readDetectorRec det sideA sideB with
  | none => refuse .badArgument
  | some r => loadInto false fun t => { t with detectors := put t.detectors det r }

def answerLoadPoint (a : PointArgs) (_ : State) : Answer :=
  match readPointRec a with
  | none => refuse .badArgument
  | some r => loadInto false fun t => { t with points := put t.points a.point r }

def execLoadNetwork (p : Port) (tag : Nat) (a : NetworkArgs) (s : State) : Host.Outcome State Fault Refusal :=
  .next (takeRequest p tag .loadNetwork (answerLoadNetwork a) s)

def execLoadSection (p : Port) (tag sec : Nat) (s : State) : Host.Outcome State Fault Refusal :=
  .next (takeRequest p tag .loadSection (answerLoadSection sec) s)

def execLoadFeeder (p : Port) (tag : Nat) (a : FeederArgs) (s : State) : Host.Outcome State Fault Refusal :=
  .next (takeRequest p tag .loadFeeder (answerLoadFeeder a) s)

def execLoadDetector (p : Port) (tag det sideA sideB : Nat) (s : State) : Host.Outcome State Fault Refusal :=
  .next (takeRequest p tag .loadDetector (answerLoadDetector det sideA sideB) s)

def execLoadPoint (p : Port) (tag : Nat) (a : PointArgs) (s : State) : Host.Outcome State Fault Refusal :=
  .next (takeRequest p tag .loadPoint (answerLoadPoint a) s)

/-! ## The checks of START_RUN (R12) -/

/-- A failure that START_RUN finds: item kind, item number, reason, second object. A failure of the network record has no item
number and not every reason a second object, so both may be none; the count of step 4 is held as a second object. (DESIGN CHOICE,
log 19) -/
structure ConfigFault where
  item : ConfigItem
  number : Option Nat
  reason : ConfigReason
  other : Option Nat
  deriving DecidableEq, Repr

def NetTables.hasSection (t : NetTables) (sec : Nat) : Bool := (look t.sections sec).isSome

/-- The first member of a list that is named earlier in it, or in `before`: a repetition counts at its later mention. (DESIGN
CHOICE, log 40) -/
def firstRepeated (before : List Nat) : List Nat → Option Nat
  | [] => none
  | x :: xs => if x ∈ before then some x else firstRepeated (x :: before) xs

def FeederRec.channels (r : FeederRec) : List Nat := [r.currentCh, r.busCh, r.lineCh]

/-- The channels of the feeders below `f`. -/
def NetTables.channelsBelow (t : NetTables) (f : Nat) : List Nat :=
  (List.range f).flatMap fun g => ((look t.feeders g).map FeederRec.channels).getD []

/-- Step 3 for one feeder, its channels in the order current, bus, line. -/
def feederFault (t : NetTables) (buses f : Nat) : Option ConfigFault :=
  match look t.feeders f with
  | none => none
  | some r =>
    if t.hasSection r.sec = false then some ⟨.feeder, some f, .noSuchSection, some r.sec⟩
    else if buses ≤ r.bus then some ⟨.feeder, some f, .noSuchBus, some r.bus⟩
    else
      (firstRepeated (t.channelsBelow f) r.channels).map fun ch => ⟨.feeder, some f, .channelShared, some ch⟩

/-- The loaded feeders that name a section, ascending. -/
def NetTables.feedersOf (t : NetTables) (sec : Nat) : List Nat :=
  (List.range 16).filter fun f => decide ((look t.feeders f).map (fun r : FeederRec => r.sec) = some sec)

/-- Step 4 for one section. -/
def sectionFault (t : NetTables) (sec : Nat) : Option ConfigFault :=
  let n := (t.feedersOf sec).length
  if t.hasSection sec = false then none
  else if n = 0 then some ⟨.sect, some sec, .noFeeder, some n⟩
  else if 2 < n then some ⟨.sect, some sec, .tooManyFeeders, some n⟩
  else none

/-- The sections of a detector's sides, side A first. -/
def DetectorRec.sides (r : DetectorRec) : List Nat := r.sideA.toList ++ r.sideB.toList

/-- Step 5 for one detector. -/
def detectorFault (t : NetTables) (det : Nat) : Option ConfigFault :=
  match look t.detectors det with
  | none => none
  | some r =>
    if r.sides = [] then some ⟨.detector, some det, .noSection, none⟩
    else
      (r.sides.find? fun sec => !t.hasSection sec).map fun sec => ⟨.detector, some det, .noSuchSection, some sec⟩

def PointRec.detectors (r : PointRec) : List Nat := [r.entry, r.leftExit, r.rightExit]

/-- The detectors of the points below `pt`. -/
def NetTables.detectorsBelow (t : NetTables) (pt : Nat) : List Nat :=
  (List.range pt).flatMap fun q => ((look t.points q).map PointRec.detectors).getD []

/-- The detector names the section on side A or side B. -/
def NetTables.onBoundary (t : NetTables) (sec det : Nat) : Bool :=
  match look t.detectors det with
  | none => false
  | some r => decide (sec ∈ r.sides)

/-- Step 6 for one point, its detectors in the order entry, left exit, right exit. (DESIGN CHOICE, log 40) -/
def pointFault (t : NetTables) (pt : Nat) : Option ConfigFault :=
  match look t.points pt with
  | none => none
  | some r =>
    if t.hasSection r.sec = false then some ⟨.point, some pt, .noSuchSection, some r.sec⟩
    else
      match r.detectors.find? fun d => (look t.detectors d).isNone with
      | some d => some ⟨.point, some pt, .noSuchDetector, some d⟩
      | none =>
        match r.detectors.find? fun d => !t.onBoundary r.sec d with
        | some d => some ⟨.point, some pt, .notOnBoundary, some d⟩
        | none =>
          (firstRepeated (t.detectorsBelow pt) r.detectors).map fun d => ⟨.point, some pt, .detectorReused, some d⟩

/-- The first failure of R12, in the order of its steps and of the item numbers. A failure of the network record has neither item
number nor second object. (DESIGN CHOICE, log 19) -/
def configFault (t : NetTables) : Option ConfigFault :=
  match t.network with
  | none => some ⟨.network, none, .notLoaded, none⟩
  | some net =>
    if held t.sections = [] then some ⟨.network, none, .noSections, none⟩
    else
      (List.range 16).findSome? (feederFault t net.busCount)
        |>.or ((List.range 24).findSome? (sectionFault t))
        |>.or ((List.range 48).findSome? (detectorFault t))
        |>.or ((List.range 16).findSome? (pointFault t))

/-! ## The derived lists (R13) -/

/-- The point and role of a detector, the loaded points asked in ascending number. -/
def NetTables.roleOf (t : NetTables) (det : Nat) : Option (Nat × DetectorRole) :=
  (List.range 16).findSome? fun pt =>
    match look t.points pt with
    | none => none
    | some r =>
      if r.entry = det then some (pt, .entry)
      else if r.leftExit = det then some (pt, .leftExit)
      else if r.rightExit = det then some (pt, .rightExit)
      else none

/-- The other feeder of a two-fed section. -/
def NetTables.partner (t : NetTables) (f : Nat) : Option Nat :=
  match look t.feeders f with
  | none => none
  | some r => (t.feedersOf r.sec).find? fun g => decide (g ≠ f)

/-- The cross-references of R13. -/
def derive (t : NetTables) : Derived where
  feedersOf := Vector.ofFn fun sec => t.feedersOf sec
  partner := Vector.ofFn fun f => t.partner f
  busFeeders := Vector.ofFn fun bus =>
    (List.range 16).filter fun f => decide ((look t.feeders f).map (fun r : FeederRec => r.bus) = some bus.val)
  boundary := Vector.ofFn fun sec => (List.range 48).filter fun d => t.onBoundary sec d
  pointsOf := Vector.ofFn fun sec =>
    (List.range 16).filter fun pt => decide ((look t.points pt).map (fun r : PointRec => r.sec) = some sec.val)
  roles := Vector.ofFn fun det => t.roleOf det

/-! ## First states (R14, R43, R90, R108, R129) -/

/-- A feeder's protection state after a reset (R43). -/
def Pu.initial : Pu where
  offset := 0
  ring := []
  step := none
  theta := 0
  alarmArmed := true
  invalidRun := 0
  stale := none
  degradeArmed := true

/-- A feeder as START_RUN finds it: OPEN or CLOSED from its contact (R14, R64). -/
def Feeder.initial (contact : Contact) (r : FeederRec) : Feeder where
  conn := r
  state := if contact = .closed then .closed else .opened
  cause := none
  attempts := 0
  role := .none
  openPending := false
  closeOntoFault := false
  backfed := 0
  stateTimer := none
  resetTimer := none
  lastTest := none
  tripCoil := false
  closeCoil := false
  testContactor := false
  pu := Pu.initial
  liveArmed := true

/-- A section's first record: ENERGISED if a feeder of it is CLOSED (R14, R90). -/
def SectionRec.initial (closed : Bool) : SectionRec where
  state := if closed then .energised else .dead
  lowVoltage := false
  occupancy := 0
  inhibit := 0
  permits := 0
  leader := none

/-- A point's first record, with its RESYNC pending (R14, R108, R129); its bit sent is 0 before the first send. (DESIGN CHOICE,
log 44) -/
def Point.initial (r : PointRec) : Point where
  frame := r
  drive := .idle
  target := none
  count := 0
  countFault := false
  blocked := false
  worksHeld := false
  failed := false
  queue := []
  seqBit := false
  attempt := 0
  lastResult := none
  hold := none
  link := ⟨.resync, .resyncPending, 0, false, none, none⟩

/-- The blocks as START_RUN brings them into RUN; the ports and queues stay as they stand (R14, R40, R195). -/
def startBlocks (t : NetTables) (pins : Pins) (b : Blocks) : Blocks :=
  let aux (f : Nat) : Contact := pins.aux[f]?.getD .opened
  { b with
    feeders := Vector.ofFn fun f : Fin 16 => (look t.feeders f).map (Feeder.initial (aux f))
    sections := Vector.ofFn fun sec : Fin 24 =>
      if t.hasSection sec then
        some (SectionRec.initial ((t.feedersOf sec).any fun f => decide (aux f = .closed)))
      else none
    points := Vector.ofFn fun pt : Fin 16 => (look t.points pt).map Point.initial
    dlc := { b.dlc with queue := held t.points }
    sq := { b.sq with latest := Vector.replicate 48 none } }

/-- A successful START_RUN (R13, R14). -/
def enterRun (s : State) : State :=
  { s with mode := .run, derived := derive s.net, blocks := startBlocks s.net s.pins s.blocks }

def answerStartRun (s : State) : Answer :=
  match configFault s.net with
  | some c => { code := .badConfig, result := .badConfig c.item c.number c.reason c.other }
  | none => { code := .done, after := enterRun }

def execStartRun (p : Port) (tag : Nat) (s : State) : Host.Outcome State Fault Refusal :=
  .next (takeRequest p tag .startRun answerStartRun s)

/-! ## The resets (R15 to R17) -/

/-- What RESTART does but for its reply and notices: every table and block at its reset state; line time, inputs and the
commands that wait stay. -/
def resetDevice (s : State) : State :=
  { s with mode := .config, net := NetTables.empty, derived := Derived.empty, blocks := Blocks.initial s.time }

def answerRestart (s : State) : Answer :=
  if s.blocks.permits = [] then
    { code := .done, before := resetDevice, after := State.onBlocks fun e => say e .restarted }
  else refuse .held

def execRestart (p : Port) (tag : Nat) (s : State) : Host.Outcome State Fault Refusal :=
  .next (takeRequest p tag .restart answerRestart s)

/-- A closed detector contact stays closed through the power-on reset; line time begins anew, so it closed before it.
(DESIGN CHOICE, log 29) -/
def ClosedContact.rebase (c : ClosedContact) : ClosedContact := { c with since := 0 - 1 }

/-- The power-on reset (R17): as RESTART, with line time 0 and nothing queued. -/
def execPowerOnReset (s : State) : Host.Outcome State Fault Refusal :=
  let keep := Vector.map (Option.map ClosedContact.rebase)
  .next (resetDevice
    { s with time := 0, pins := { s.pins with detA := keep s.pins.detA, detB := keep s.pins.detB } })

/-! ## Line time (R18) -/

/-- The rests after a reset (R16) and the gap after a transmission (R168) end as line time reaches them; SQ carries on where
it had waited for the converter link. (DESIGN CHOICE, log 32) -/
def endRests (e : Env) (b : Blocks) : Blocks :=
  { b with
    clc := { b.clc with rest := stopIfDue b.clc.rest e.time }
    dlc := { b.dlc with rest := stopIfDue b.dlc.rest e.time }
    rlc := { b.rlc with gapAfterSend := stopIfDue b.rlc.gapAfterSend e.time } }

/-- Line time advances by one millisecond (R18). (DESIGN CHOICE, log 6) -/
def execLineTimeTick (s : State) : Host.Outcome State Fault Refusal :=
  let t : State := { s with time := s.time + 1 }
  let waited := timerDue s.blocks.clc.rest t.time
  .next ((t.onBlocks endRests).inRun fun e b => if waited then carryOn e b else b)

end Sys2Proof.Machine
end

