-- ==== Sys2Proof/Machine/Permits.lean ====
section
/-! DEFINITION. The Permit Table and the reading of sections (R96, R98 to R103, R107). -/

namespace Sys2Proof.Machine

open Sys2Proof

/-- PT writes a section's permit count: a derivation, and on a rise from 0 or a return to 0 the cover or uncover (R96). -/
def writePermitCount (e : Env) (sec : Nat) (n : Nat) (b : Blocks) : Blocks :=
  match b.section? sec with
  | none => b
  | some x =>
    let b := deriveSection e sec (b.setSection sec { x with permits := n })
    if x.permits = 0 ∧ 0 < n then cover e sec b
    else if 0 < x.permits ∧ n = 0 then uncover e sec b
    else b

/-- A section's permit count. -/
def Blocks.permitCount (b : Blocks) (sec : Nat) : Nat := ((b.section? sec).map fun x : SectionRec => x.permits).getD 0

/-- An ISOLATE taken (R100): the counts, covers and the new permit's state. The permit enters the table with the state
decided for it, since no change before step 3 decides it (R101). (DEDUCED, log 14) -/
def isolate (number : Nat) (secs : List Nat) (e : Env) (b : Blocks) : Blocks :=
  let b := secs.foldl (fun b sec => writePermitCount e sec (b.permitCount sec + 1) b) b
  let p : Permit := { number := number, secs := secs, state := .pending, time := e.time }
  let p : Permit := { p with state := decidedState e b p }
  say e (permitNotice e b p) { b with permits := b.permits ++ [p] }

/-- A RELEASE taken: the notice, then the counts and uncovers (R102). -/
def release (p : Permit) (e : Env) (b : Blocks) : Blocks :=
  let b := { b with permits := b.permits.filter fun q => decide (q.number ≠ p.number) }
  let b := say e (.permitState p.number .released p.secs e.time none) b
  p.secs.foldl (fun b sec => writePermitCount e sec (b.permitCount sec - 1) b) b

/-- ISOLATE's own checks, in the order of R99. -/
def answerIsolate (number : Nat) (secs : List Nat) (s : State) : Answer :=
  if number = 0 ∨ 65535 < number ∨ secs = [] ∨ 4 < secs.length ∨ (secs.any fun sec => decide (24 ≤ sec)) = true ∨
      ¬ secs.Nodup then
    refuse .badArgument
  else if (secs.all fun sec => (s.blocks.section? sec).isSome) = false then refuse .noSuch
  else if s.blocks.permits.any fun p => decide (p.number = number) then refuse .badArgument
  else if Config.permitMax ≤ s.blocks.permits.length then refuse .full
  else effect .accepted (isolate number secs)

/-- The permit of a number. -/
def Blocks.permit? (b : Blocks) (number : Nat) : Option Permit := b.permits.find? fun p => decide (p.number = number)

def answerRelease (number : Nat) (s : State) : Answer :=
  if number = 0 ∨ 65535 < number then refuse .badArgument
  else
    match s.blocks.permit? number with
    | none => refuse .noSuch
    | some p => effect .done (release p)

/-- A section of a permit as READ_PERMIT reports it (R103). -/
def permitSection (s : State) (sec : Nat) : PermitSection where
  sec := sec
  state := s.blocks.secState sec
  permits := s.blocks.permitCount sec
  feeders := (s.env.feedersOf sec).filterMap fun f =>
    (s.blocks.feeder? f).map fun x : Feeder => ⟨f, x.state, s.env.aux f⟩

def answerReadPermit (number : Nat) (s : State) : Answer :=
  if 65535 < number then refuse .badArgument
  else if number = 0 then { code := .done, result := .permits s.blocks.permits }
  else
    match s.blocks.permit? number with
    | none => refuse .noSuch
    | some p => { code := .done, result := .permit p (p.secs.map (permitSection s)) }

/-- The record READ_SECTION reports (R107). -/
def sectionReport (s : State) (sec : Nat) (x : SectionRec) : SectionReport where
  record := x
  powered := x.powered
  feeders := (s.env.feedersOf sec).filterMap fun f =>
    (s.blocks.feeder? f).map fun y : Feeder => ⟨f, y.state, y.cause, y.role, s.env.aux f, y.liveArmed⟩
  permits := (s.blocks.permits.filter fun p => decide (sec ∈ p.secs)).map (·.number)
  monitor := (s.blocks.sq.boundSlot sec).bind fun i =>
    (look s.blocks.sq.slots i).map fun en : ScanEntry => ⟨i, en.crossing, look s.blocks.sq.latest en.channel⟩
  points := (s.env.pointsOf sec).filterMap fun pt =>
    (s.blocks.point? pt).map fun y : Point => ⟨pt, s.env.position pt y.drive, y.drive⟩

def answerReadSection (sec : Nat) (s : State) : Answer :=
  naming s.blocks.sections sec fun x => { code := .done, result := .sect (sectionReport s sec x) }

/-! ## The commands -/

def execIsolate (p : Port) (tag number : Nat) (secs : List Nat) (s : State) : Host.Outcome State Fault Refusal :=
  .next (takeRequest p tag .isolate (answerIsolate number secs) s)

def execRelease (p : Port) (tag number : Nat) (s : State) : Host.Outcome State Fault Refusal :=
  .next (takeRequest p tag .release (answerRelease number) s)

def execReadPermit (p : Port) (tag number : Nat) (s : State) : Host.Outcome State Fault Refusal :=
  .next (takeRequest p tag .readPermit (answerReadPermit number) s)

def execReadSection (p : Port) (tag sec : Nat) (s : State) : Host.Outcome State Fault Refusal :=
  .next (takeRequest p tag .readSection (answerReadSection sec) s)

end Sys2Proof.Machine
end

