-- ==== Sys2Proof/Machine/Radio.lean ====
section
/-! DEFINITION. The Radio Link Controller (R159 to R169): enables, the receiver and its judgement of telegrams, the Receive
Queue, the transmitter, ALL_STOP, and the requests on the radio. -/

namespace Sys2Proof.Machine

open Sys2Proof

/-! ## Judging a telegram (R161) -/

/-- The outcome of R161: a bad telegram carries the case that judged it. -/
inductive Judgement where
  | ignored
  | bad (judgedCase : Nat)
  | good (body : RxBody)
  deriving DecidableEq, Repr

/-- A vehicle identity lies in 1 to 4095 (R161). -/
def isVehicle (v : Nat) : Bool := decide (1 ≤ v ∧ v ≤ 4095)

/-- The telegram of a kind in the bytes between its kind and its check word, or none where case 7 of R161 refuses it. -/
def readBody (kind : Nat) (fields : List Byte) : Option RxBody :=
  match kind, fields with
  | 1, [v1, v0, det, d] =>
    match dirOf d.toNat with
    | some d => if isVehicle (wordOf v1 v0) then some (.pos (wordOf v1 v0) det.toNat d) else none
    | none => none
  | 2, [v1, v0, c, detail, det] =>
    match faultCodeOf c.toNat with
    | some c =>
      if isVehicle (wordOf v1 v0) ∧ (c = .dewire → 1 ≤ detail.toNat ∧ detail.toNat ≤ 3) then
        some (.flt (wordOf v1 v0) c detail.toNat det.toNat)
      else none
    | none => none
  | 3, [v1, v0, c] =>
    match faultOrAllOf c.toNat with
    | some c => if isVehicle (wordOf v1 v0) then some (.clr (wordOf v1 v0) c) else none
    | none => none
  | _, _ => none

/-- A telegram judged at the gap that ends it, by the first case of R161 that applies. -/
def judgeTelegram (group : Nat) (t : List RadioByte) : Judgement :=
  let bytes := t.map (·.byte)
  match t with
  | [] => .ignored
  | first :: rest =>
    if first.bad then .bad 1
    else if first.byte.toNat ≠ group then .ignored
    else if rest.any (·.bad) then .bad 3
    else if bytes.length < 6 ∨ 24 < bytes.length then .bad 4
    else if checkOk bytes = false then .bad 5
    else
      match bytes with
      | _ :: kind :: more =>
        if kind.toNat = 0 ∨ 3 < kind.toNat then .bad 6
        else
          match readBody kind.toNat (more.take (more.length - 2)) with
          | some body => .good body
          | none => .bad 7
      | _ => .bad 4

/-! ## Receiving (R160, R163, R164) -/

/-- A bad telegram is counted; the eighth in a row gives RADIO_DEGRADED (R163). -/
def countBad (e : Env) (judgedCase : Nat) (b : Blocks) : Blocks :=
  let n := min 255 (b.rlc.badRun + 1)
  let b := { b with rlc := { b.rlc with badRun := n } }
  if Config.badRunAlarm ≤ n ∧ b.rlc.degradedArmed = true then
    say e (.radioDegraded n judgedCase) { b with rlc := { b.rlc with degradedArmed := false } }
  else b

def RxBody.about : RxBody → RxKind × Nat
  | .pos v _ _ => (.pos, v)
  | .flt v _ _ _ => (.flt, v)
  | .clr v _ => (.clr, v)

/-- A good telegram is queued, or lost to an overrun (R163, R164). -/
def queueTelegram (e : Env) (t : RxTelegram) (b : Blocks) : Blocks :=
  let r : Rlc := { b.rlc with badRun := 0, degradedArmed := true }
  if r.rxQueue.length < Config.receiveMax then { b with rlc := { r with rxQueue := r.rxQueue ++ [t] } }
  else
    let n := min 65535 (r.overrunCount + 1)
    say e (.radioOverrun n t.body.about.1 t.body.about.2)
      { b with rlc := { r with overrun := true, overrunCount := n } }

/-- The telegram that a gap ends is judged (R161). -/
def endTelegram (e : Env) (b : Blocks) : Blocks :=
  match b.rlc.assembling with
  | none => b
  | some t =>
    let arrival := b.rlc.lastByte
    let b := { b with rlc := { b.rlc with assembling := none } }
    match judgeTelegram e.network.radioGroup t with
    | .ignored => b
    | .bad n => countBad e n b
    | .good body => queueTelegram e ⟨body, arrival⟩ b

/-- An idle gap begins once three byte times have passed since the last byte; the receive acknowledge then follows its
enable (R159, R160). -/
def idleGap (e : Env) (b : Blocks) : Blocks :=
  if b.rlc.inGap = false ∧ Config.idleGapMs ≤ elapsed e.time b.rlc.lastByte then
    let b := endTelegram e b
    { b with rlc := { b.rlc with inGap := true, rxAck := b.rlc.rxEnable } }
  else b

/-- A byte arrives: it opens a telegram after a gap while the receive acknowledge is set, or joins the one being assembled
(R160). -/
def takeByte (x : RadioByte) (e : Env) (b : Blocks) : Blocks :=
  { b with rlc := { b.rlc with
      inGap := false
      lastByte := e.time
      assembling :=
        if b.rlc.inGap then (if b.rlc.rxAck then some [x] else none) else b.rlc.assembling.map (· ++ [x]) } }

/-! ## Transmitting (R159, R168, R169) -/

/-- The transmit acknowledge follows its enable between telegrams; going clear it empties the queue and the flags (R159,
R167). -/
def Rlc.txFollow (r : Rlc) : Rlc :=
  if r.sending.isSome then r
  else if r.txAck ∧ r.txEnable = false then { r with txAck := false, txQueue := [], allStop := false, txOverflow := false }
  else { r with txAck := r.txEnable }

def FaultCode.number : FaultCode → Nat
  | .dewire => 1
  | .leakage => 2
  | .traction => 3
  | .overload => 4
  | .auxSupply => 5

/-- The state byte of a SEC_DEAD. -/
def SectionState.deadByte : SectionState → Byte
  | .isolated => 2
  | _ => 1

/-- A telegram's bytes: the radio group, the kind and fields of its layout, the check word (R162, R166). -/
def TxTelegram.bytes (group : Nat) (t : TxTelegram) : List Byte :=
  let body : List Byte :=
    match t with
    | .secDead sec st => [16, BitVec.ofNat 8 sec, st.deadByte]
    | .secLive sec => [17, BitVec.ofNat 8 sec, 0]
    | .ptBlock pt det => [18, BitVec.ofNat 8 pt, BitVec.ofNat 8 det]
    | .fltAck v c => [19] ++ wordBytes v ++ [BitVec.ofNat 8 c.number]
    | .allStop => [20, 85, 170]
  withCheck (BitVec.ofNat 8 group :: body)

/-- The next telegram to send, and the link's queue and flag without it (R168). -/
def Rlc.next (r : Rlc) : Option (TxTelegram × Rlc) :=
  if r.allStop then some (.allStop, { r with allStop := false })
  else
    match r.txQueue with
    | [] => none
    | t :: q => some (t, { r with txQueue := q })

/-- The transmitter may start (R168). -/
def Rlc.mayStart (r : Rlc) : Bool := r.txAck && r.sending.isNone && r.gapAfterSend.isNone && r.inGap

/-- The transmitter starts a telegram when every condition of R168 holds. -/
def startSending (e : Env) (b : Blocks) : Blocks :=
  if b.rlc.mayStart then
    match b.rlc.next with
    | none => b
    | some (t, r) => { b with rlc := { r with sending := some ⟨t, t.bytes e.network.radioGroup⟩ } }
  else b

/-- The telegram on the air ends; three byte times follow, and the transmit acknowledge follows its enable (R159, R168). When
the last byte has gone is for the command to say. (DESIGN CHOICE, log 47) -/
def endSending (e : Env) (b : Blocks) : Blocks :=
  match b.rlc.sending with
  | none => b
  | some _ =>
    let r : Rlc := { b.rlc with sending := none, gapAfterSend := some ⟨e.time, Config.idleGapMs⟩ }
    { b with rlc := r.txFollow }

/-! ## Requests (R159, R165, R169) -/

/-- Both enables take their values; each acknowledge follows at once where the link allows (R159). -/
def Rlc.enable (receive transmit : Bool) (r : Rlc) : Rlc :=
  Rlc.txFollow
    { r with rxEnable := receive, txEnable := transmit, rxAck := if r.inGap then receive else r.rxAck }

def answerRadioEnable (receive transmit : Nat) (_ : State) : Answer :=
  match flagOf receive, flagOf transmit with
  | some rx, some tx => effect .done fun _ b => { b with rlc := b.rlc.enable rx tx }
  | _, _ => refuse .badArgument

def answerFlushRadio (s : State) : Answer :=
  effect .done (fun _ b => { b with rlc := { b.rlc with rxQueue := [], overrun := false, overrunCount := 0 } })
    (.count s.blocks.rlc.rxQueue.length)

def answerAllStop (s : State) : Answer :=
  if s.blocks.rlc.txAck then effect .accepted fun _ b => { b with rlc := { b.rlc with allStop := true } }
  else refuse .wrongState

/-! ## The commands -/

def execRadioEnable (p : Port) (tag receive transmit : Nat) (s : State) : Host.Outcome State Fault Refusal :=
  .next (takeRequest p tag .radioEnable (answerRadioEnable receive transmit) s)

def execFlushRadio (p : Port) (tag : Nat) (s : State) : Host.Outcome State Fault Refusal :=
  .next (takeRequest p tag .flushRadio answerFlushRadio s)

def execAllStop (p : Port) (tag : Nat) (s : State) : Host.Outcome State Fault Refusal :=
  .next (takeRequest p tag .allStop answerAllStop s)

def execReceiveIdleGap (s : State) : Host.Outcome State Fault Refusal := .next (s.inRun idleGap)

def execTransmitStart (s : State) : Host.Outcome State Fault Refusal := .next (s.inRun startSending)

def execTransmitEnd (s : State) : Host.Outcome State Fault Refusal := .next (s.inRun endSending)

def execRadioByteArrival (byte : Byte) (bad : Bool) (s : State) : Host.Outcome State Fault Refusal :=
  .next (s.inRun (takeByte ⟨byte, bad⟩))

end Sys2Proof.Machine
end

