-- ==== Sys2Proof/Machine/Layout.lean ====
section
/-! DEFINITION. The bytes of a Reply Queue entry as a read frame clocks it out (R197, R198, chapter Frame and Telegram
Layouts). -/

namespace Sys2Proof.Machine

open Sys2Proof

/-! ## Fields (R198) -/

/-- A one-byte field. -/
def b8 (n : Nat) : List Byte := [BitVec.ofNat 8 n]

/-- A two-byte field, high byte first. -/
def b16 (n : Int) : List Byte := wordBytes n

/-- A four-byte field, high byte first. -/
def b32 (n : Nat) : List Byte := wordBytes (n / 65536 % 65536 : Nat) ++ wordBytes (n % 65536 : Nat)

/-- A line time. -/
def bTime (t : Time) : List Byte := b32 t.toNat

/-- A flag. -/
def bFlag (x : Bool) : List Byte := b8 (if x then 1 else 0)

/-- A field that may be none: a presence byte, then the field. Neighbouring fields that are none together stand behind one
presence byte, save the head's tag and the head's state of a POINT_STATE, which have one each. (DESIGN CHOICE, log 19) -/
def bOpt {α : Type} (enc : α → List Byte) : Option α → List Byte
  | none => b8 0
  | some x => b8 1 ++ enc x

/-- A one-byte identifier that may be none: 255 for none. -/
def bId (x : Option Nat) : List Byte := b8 (x.getD 255)

/-- A group of fields led by a one-byte identifier: 255 alone for none. (DESIGN CHOICE, log 19) -/
def bOptId {α : Type} (enc : α → List Byte) : Option α → List Byte
  | none => b8 255
  | some x => enc x

/-- A list: the number of its items, then the items. -/
def bList {α : Type} (enc : α → List Byte) (xs : List α) : List Byte := b8 xs.length ++ xs.flatMap enc

/-! ## Enumerated values: coded by their place in the list of their rule (R198) -/

/-- A feeder state, without its sub-phase. -/
def FeederState.code : FeederState → Nat
  | .opened => 0 | .closing => 1 | .closed => 2 | .tripping => 3 | .deadTime _ => 4
  | .lineTest _ => 5 | .waitClear => 6 | .lockout => 7 | .held => 8 | .breakerFail => 9

/-- A sub-phase, in the list of its state; none in other states. -/
def FeederState.phase : FeederState → Option Nat
  | .deadTime p => some p.ctorIdx
  | .lineTest p => some p.ctorIdx
  | _ => none

/-- A feeder state with its sub-phase. -/
def bState (x : FeederState) : List Byte := b8 x.code ++ bOpt b8 x.phase

def bCause (x : Option Cause) : List Byte := bOpt (fun c : Cause => b8 c.ctorIdx) x

def bContact (c : Contact) : List Byte := b8 c.ctorIdx

/-- LEFT or RIGHT in a reply or notice: coded by its place, from 0, and not by the codes of the THROW format on the drive link.
(DESIGN CHOICE, log 19) -/
def bLeg (l : Leg) : List Byte := b8 l.ctorIdx

/-- Telegram kinds have the codes of the radio telegrams. -/
def RxKind.code (k : RxKind) : Nat := k.ctorIdx + 1

/-- A telegram's kind code and subject, as TX_OVERFLOW names them (R167): of an FLT_ACK the vehicle, without the fault code.
(DESIGN CHOICE, log 19) -/
def bTelegram : TxTelegram → List Byte
  | .secDead sec _ => b8 16 ++ b8 sec
  | .secLive sec => b8 17 ++ b8 sec
  | .ptBlock pt _ => b8 18 ++ b8 pt
  | .fltAck v _ => b8 19 ++ b16 v
  | .allStop => b8 20

/-- A result in the list of R140. -/
def DriveResult.noticeCode : DriveResult → Nat
  | .powerLost => 0 | .refusedLocal => 1 | .jammed => 2 | .noAnswer => 3 | .busy => 4 | .notReached => 5
  | .reached => 6 | .withdrawn => 7

/-- A notice kind's code, 1 for the first of the catalogue. -/
def NoticeKind.code (k : NoticeKind) : Nat := k.ctorIdx + 1

def bSample (x : Sample) : List Byte := b8 x.cls.ctorIdx ++ b16 x.value

/-! ## Notices -/

def bReservation (c : ReservationContent) : List Byte := b8 c.pt ++ bLeg c.position ++ b16 c.rtag ++ bOpt (b16 ·) c.vehicle

def bLimit (c : LimitContent) : List Byte :=
  b8 c.entry ++ b8 c.channel ++ b8 c.cls.ctorIdx ++ b16 c.value ++ b8 c.dir.ctorIdx ++ b16 c.cycle.toNat

/-- A notice's content, in the order in which its rule names the fields; what the entry's header carries (the subject of a
coalescible kind, the event's line time) is not repeated. RELEASED in a PERMIT_STATE (R102) is coded 3. A POINT_STATE (R114) has
the head's tag and the head's state behind a presence byte each. Both uses of BREAKER_FAIL have the fields of R71: of a failed
close (R79) the feeder stands first, and the list of the feeders intertripped stands last and is empty, a count byte of 0. (DESIGN
CHOICE, log 19) -/
def NoticeBody.content : NoticeBody → List Byte
  | .converterFault _ p => b8 p.ctorIdx
  | .scanPaused done next => b8 done ++ b8 next
  | .limitCrossed c => bLimit c
  | .limitCleared c => bLimit c
  | .calDone ch off => b8 ch ++ b16 off
  | .calFailed ch r => b8 ch ++ b8 r.ctorIdx
  | .measReady n => b8 n
  | .thermalAlarm f theta alarm => b8 f ++ b16 theta ++ b16 alarm
  | .precheckResult f r v attempts backfed =>
    b8 f ++ b8 0 ++ b8 r.ctorIdx ++ bOpt b16 v ++ b8 attempts ++ b8 backfed
  | .testResult f cls r rEff occupancy attempts =>
    b8 f ++ b8 1 ++ b8 cls.ctorIdx ++ b16 r ++ b16 rEff ++ b8 occupancy ++ b8 attempts
  | .externalClose f was => b8 f ++ b8 was.code
  | .protectionDegraded f r run => b8 f ++ b8 r.ctorIdx ++ b8 run
  | .trip f c theta sample => b8 f ++ b8 c.ctorIdx ++ b16 theta ++ bOpt bSample sample
  | .breakerFail f op c fs => b8 f ++ b8 op.ctorIdx ++ bContact c ++ bList b8 fs
  | .feederState _ st c attempts role => bState st ++ bCause c ++ b8 attempts ++ b8 role.ctorIdx
  | .closedWhileHeld f => b8 f
  | .sectionState _ st low occupancy inhibit permits =>
    b8 st.ctorIdx ++ bFlag low ++ b8 occupancy ++ b8 inhibit ++ b8 permits
  | .permitState n st secs stamp failed => b16 n ++ b8 st.ctorIdx ++ bList b8 secs ++ bTime stamp ++ bId failed
  | .liveOnIsolated sec f ch v st c => b8 sec ++ b8 f ++ b8 ch ++ b16 v ++ b8 st.code ++ bContact c
  | .enteredIsolated v sec permits det confirmed => b16 v ++ b8 sec ++ b8 permits ++ b8 det ++ bFlag confirmed
  | .restarted => []
  | .pointState c =>
    b8 c.position.ctorIdx ++ b8 c.drive.ctorIdx ++ bOpt bLeg c.target ++ b8 c.count ++ bFlag c.countFault ++
      bFlag c.blocked ++ bFlag c.worksHeld ++ bFlag c.failed ++ b8 c.reservations ++ bOpt (b16 ·) c.headTag ++
      bOpt bFlag c.headActive ++ bOpt (fun r : DriveResult => b8 r.ctorIdx) c.lastResult
  | .detectionFault pt was => b8 pt ++ b8 was.ctorIdx
  | .countFault pt det d n => b8 pt ++ b8 det ++ b8 d.ctorIdx ++ b8 n
  | .pointMoved pt old new d => b8 pt ++ b8 old.ctorIdx ++ b8 new.ctorIdx ++ b8 d.ctorIdx
  | .pointSet c => bReservation c
  | .wrongExit c leg => b8 c.pt ++ bLeg c.position ++ bLeg leg ++ b16 c.rtag ++ bOpt (b16 ·) c.vehicle
  | .reservationExpired c => bReservation c
  | .pointBlocked pt det v => b8 pt ++ b8 det ++ b16 v
  | .pointResult c =>
    b8 c.pt ++ bFlag c.resync ++ bOpt bLeg c.target ++ b8 c.result.noticeCode ++ b8 c.sends ++ bFlag c.bit ++
      bFlag c.seqBit ++ b8 c.attempt ++ b8 c.position.ctorIdx ++ bFlag c.powered
  | .unidentifiedPass det d t forced => b8 det ++ b8 d.ctorIdx ++ bTime t ++ bFlag forced
  | .vehicleMoved v old new det d ct tt =>
    b16 v ++ bId old ++ bId new ++ b8 det ++ b8 d.ctorIdx ++ bTime ct ++ bTime tt
  | .unconfirmedMove v old new det d t forced =>
    b16 v ++ bId old ++ bId new ++ b8 det ++ b8 d.ctorIdx ++ bTime t ++ bFlag forced
  | .enteredDead v sec det confirmed => b16 v ++ b8 sec ++ b8 det ++ bFlag confirmed
  | .vehicleNew v k => b16 v ++ b8 k.code
  | .vehicleEvicted v sec t w => b16 v ++ bId sec ++ bTime t ++ b16 w
  | .vehicleTableFull v k => b16 v ++ b8 k.code
  | .vehicleLost v sec t => b16 v ++ bId sec ++ bTime t
  | .vehicleFound v sec st => b16 v ++ bId sec ++ b8 st.ctorIdx
  | .vehicleFault v c detail det sec st t =>
    b16 v ++ b8 c.number ++ b8 detail ++ bId det ++ bId sec ++ b8 st.ctorIdx ++ bTime t
  | .faultCleared v c src t0 t1 sec st =>
    b16 v ++ b8 c.number ++ b8 src.ctorIdx ++ bTime t0 ++ bTime t1 ++ bId sec ++ b8 st.ctorIdx
  | .txOverflow t => bTelegram t
  | .radioDegraded n c => b8 n ++ b8 c
  | .radioOverrun n k v => b16 n ++ b8 k.code ++ b16 v

/-! ## Replies -/

def bLatest (x : Latest) : List Byte := b8 x.cls.ctorIdx ++ b16 x.value ++ bTime x.time

def bRecord (x : MeasRecord) : List Byte :=
  b8 x.entry ++ b8 x.channel ++ b8 x.cls.ctorIdx ++ b16 x.value ++ bTime x.time ++ b16 x.cycle.toNat

def bKinds (ks : List NoticeKind) : List Byte := bList (fun k : NoticeKind => b8 k.code) ks

/-- The port whose READ_STATUS carries the part. -/
def StatusPart.port : StatusPart → Port
  | .dispatch .. => .dispatch
  | .traffic .. => .traffic
  | .works _ => .works

/-- The summary flags of a port: a byte for each kind that can be masked on it, in the order of the catalogue (R190, R198). -/
def bSummaries (p : Port) (ks : List NoticeKind) : List Byte :=
  (NoticeKind.all.filter fun k => decide (p ∈ k.ports ∧ k.maskable = true)).flatMap fun k => bFlag (decide (k ∈ ks))

def bRadio (x : RadioStatus) : List Byte :=
  bFlag x.rxEnable ++ bFlag x.txEnable ++ bFlag x.rxAck ++ bFlag x.txAck ++ b8 x.received ++ b8 x.toSend ++
    bFlag x.sending ++ bFlag x.allStop ++ b8 x.badRun ++ b8 (if x.degradedArmed then 0 else 1) ++ bFlag x.overrun ++
    b16 x.overrunCount ++ bFlag x.txOverflow

/-- What READ_STATUS reports on one port alone (R191): the presence of the six converters is a list, with
its count. (DESIGN CHOICE, log 19) -/
def bStatusPart : StatusPart → List Byte
  | .dispatch presence mode next stop cycles allStop txAck =>
    bList (fun p : Presence => b8 p.ctorIdx) presence ++ b8 mode.ctorIdx ++ b8 next ++ bFlag stop ++ b16 cycles.toNat ++
      bFlag allStop ++ bFlag txAck
  | .traffic n holder radio => b8 n ++ bId holder ++ bRadio radio
  | .works n => b8 n

/-- The reply of READ_STATUS (R191); the mask is the set of kinds as SET_MASK carries it. (DESIGN CHOICE, log 19) -/
def bStatus (r : StatusReport) : List Byte :=
  b8 r.mode.ctorIdx ++ bTime r.time ++ b8 r.entries ++ b8 r.notices ++ bFlag r.noticeLost ++
    bSummaries r.part.port r.summaries ++ bKinds r.masks ++ b8 r.lineMode.ctorIdx ++ b8 r.gap.ctorIdx ++
    b8 r.routing.ctorIdx ++ bFlag r.urgent ++ bStatusPart r.part

/-- The settings in the order of R9; of an R_t above 65535 its field holds the low 16 bits. (DESIGN CHOICE, log 26) -/
def bSettings (x : Settings) : List Byte :=
  b16 x.tDead ++ b16 x.tSettle ++ b16 x.tClose ++ b16 x.tTrip ++ b16 x.tReset ++ b16 x.tStep ++ b16 x.tStale ++
    b8 x.nRc ++ b8 x.nLt ++ b8 x.w ++ b8 x.k ++ b16 x.iInst ++ b16 x.iRev ++ b16 x.dIset ++ b16 x.thetaAlarm ++
    b16 x.thetaTrip ++ b16 x.rT ++ b16 x.rMin ++ b16 x.vBf ++ b8 x.policy.ctorIdx

/-- The connection fields of feeder `n`, in the order of R8. -/
def bConnections (n : Nat) (f : FeederRec) : List Byte :=
  b8 n ++ b8 f.sec ++ b8 f.bus ++ b8 f.currentCh ++ b8 f.busCh ++ b8 f.lineCh ++ bSettings f.settings

/-- Which of T_trip, T_close, T_dead and T_settle a feeder's state timer is. -/
def FeederState.timerCode : FeederState → Nat
  | .closing => 1
  | .deadTime _ => 2
  | .lineTest _ => 3
  | _ => 0

/-- A running timer of FC: its start time and what it has left. -/
def bTimer (t : Option Timer) (left : Option Nat) : List Byte :=
  bOpt (fun t : Timer => bTime t.start ++ b32 (left.getD 0)) t

/-- The last line test (R64): its stage, then what that stage has of R64's fields, a PRECHECK its result and V̄, which may be
none, a TEST its class, R and outcome; then its line time. (DESIGN CHOICE, log 19) -/
def bLastTest (x : LastTest) : List Byte :=
  (match x.report with
    | .precheck r v => b8 0 ++ b8 r.ctorIdx ++ bOpt b16 v
    | .test cls r out => b8 1 ++ b8 cls.ctorIdx ++ b16 r ++ b8 out.ctorIdx) ++ bTime x.time

/-- The PU values of READ_FEEDER (R89) in the order of R43, the offset first and the armed step in the place of the step
state. R89 names the step's fields and the offset once more behind them, and each is sent once. (DESIGN CHOICE, log 19) -/
def bPu (p : Pu) : List Byte :=
  b16 p.offset ++ b8 p.ring.length ++ bOpt (fun r : RingEntry => b16 r.value ++ bTime r.time) p.ring.getLast? ++
    bOpt (fun a : StepArm => b16 a.base ++ b16 a.holdLevel ++ bTime a.armTime) p.step ++ b16 p.theta ++ b8 p.invalidRun ++
    bOpt (fun t : Timer => bTime t.start) p.stale

/-- The reply of READ_FEEDER (R89). -/
def bFeeder (r : FeederReport) : List Byte :=
  let x := r.feeder
  bConnections r.number x.conn ++ bState x.state ++ bCause x.cause ++ b8 x.attempts ++ b8 x.role.ctorIdx ++
    bFlag x.openPending ++ bFlag x.closeOntoFault ++ b8 x.backfed ++ bContact r.contact ++
    bOpt (fun t : Timer => b8 x.state.timerCode ++ bTime t.start ++ b32 (r.stateLeft.getD 0)) x.stateTimer ++
    bTimer x.resetTimer r.resetLeft ++ bOpt bLastTest x.lastTest ++ bFlag x.tripCoil ++ bFlag x.closeCoil ++
    bFlag x.testContactor ++ bPu x.pu ++ bOpt bLatest r.currentLatest ++ bOpt bLatest r.busLatest ++
    bOpt bLatest r.lineLatest ++ b8 r.secState.ctorIdx ++ bId r.leader

def bFeederLine (x : FeederLine) : List Byte :=
  b8 x.f ++ bState x.state ++ bCause x.cause ++ b8 x.role.ctorIdx ++ bContact x.contact ++
    b8 (if x.liveArmed then 0 else 1)

/-- The reply of READ_SECTION (R107). -/
def bSection (r : SectionReport) : List Byte :=
  b8 r.record.state.ctorIdx ++ bFlag r.record.lowVoltage ++ bFlag r.powered ++ b8 r.record.occupancy ++
    b8 r.record.inhibit ++ b8 r.record.permits ++ bId r.record.leader ++ bList bFeederLine r.feeders ++
    bList (fun n : Nat => b16 n) r.permits ++
    bOptId (fun m : MonitorLine => b8 m.entry ++ bFlag m.crossing.isSome ++ bOpt bLatest m.latest) r.monitor ++
    bList (fun p : PointLine => b8 p.pt ++ b8 p.position.ctorIdx ++ b8 p.drive.ctorIdx) r.points

def bPermitFeeder (x : PermitFeeder) : List Byte := b8 x.f ++ b8 x.state.code ++ bContact x.contact

/-- A section of a permit with its state, permit count and feeders (R103). -/
def bPermitSection (x : PermitSection) : List Byte :=
  b8 x.sec ++ b8 x.state.ctorIdx ++ b8 x.permits ++ bList bPermitFeeder x.feeders

def bQueued (r : Reservation) : List Byte :=
  bLeg r.position ++ bOpt (b16 ·) r.vehicle ++ b16 r.rtag ++ bFlag r.active.isSome ++ bOpt bTime r.active ++
    bFlag r.overdue

/-- The pending work but none, in the list of R129: RESYNC, THROW, RESYNC then THROW. -/
def DriveWork.code : DriveWork → Option Nat
  | .none => Option.none
  | .resync => some 0
  | .throw => some 1
  | .resyncThenThrow => some 2

def bLink (l : LinkRecord) : List Byte :=
  bOpt b8 l.work.code ++ b8 l.sync.ctorIdx ++ b8 l.sends ++ bFlag l.bitSent ++
    bOpt (fun t : Timer => bTime t.start) l.busyDelay ++ bOpt (fun t : Timer => bTime t.start) l.tPoint

/-- The reply of READ_POINT (R127, R129): each detector goes before its own facing direction, the reservation queue stands
behind the other fields of R108, where R127 names it, and the remaining T_hold of an ACTIVE head behind the whole queue.
(DESIGN CHOICE, log 19) -/
def bPoint (r : PointReport) : List Byte :=
  let x := r.point
  b8 x.frame.sec ++ b8 r.secState.ctorIdx ++ bFlag r.powered ++ b8 x.frame.entry ++ b8 x.frame.entryDir.ctorIdx ++
    b8 x.frame.leftExit ++ b8 x.frame.leftDir.ctorIdx ++ b8 x.frame.rightExit ++ b8 x.frame.rightDir.ctorIdx ++
    bContact r.leftContact ++ bContact r.rightContact ++ b8 r.position.ctorIdx ++ b8 x.drive.ctorIdx ++
    bOpt bLeg x.target ++ b8 x.count ++ bFlag x.countFault ++ bFlag x.blocked ++ bFlag x.worksHeld ++ bFlag x.failed ++
    bFlag x.seqBit ++ b8 x.attempt ++ bOpt (fun d : DriveResult => b8 d.ctorIdx) x.lastResult ++
    bList bQueued x.queue ++ bOpt b32 r.holdLeft ++ bOpt b32 r.tPointLeft ++ bLink x.link ++ bOpt b8 r.queuePlace

def bFaultEntry (x : FaultEntry) : List Byte :=
  b8 x.code.number ++ b8 x.detail ++ bId x.det ++ bTime x.first ++ bTime x.last

/-- The reply of READ_VEHICLE for one vehicle (R157). -/
def bVehicle (r : VehicleReport) : List Byte :=
  let x := r.vehicle
  b16 x.id ++ b8 r.state.ctorIdx ++ bId x.sec ++ bOptId (fun p : Nat × Dir => b8 p.1 ++ b8 p.2.ctorIdx) x.lastPass ++
    bTime x.heard ++ bFlag x.unconfirmed ++ bOpt b32 r.silenceLeft ++ bList bFaultEntry x.faults ++ b8 r.waiting

def bVehicleLine (x : VehicleLine) : List Byte := b16 x.id ++ b8 x.state.ctorIdx ++ bId x.sec ++ bFlag x.unconfirmed

def bPass (x : PassEntry) : List Byte :=
  match x.kind with
  | .contact => b8 0 ++ b8 x.det ++ b8 x.dir.ctorIdx ++ bTime x.time ++ b8 0
  | .telegram v => b8 1 ++ b8 x.det ++ b8 x.dir.ctorIdx ++ bTime x.time ++ b8 1 ++ b16 v

/-- As many items as fit into `room` bytes with their count, and the room left. -/
def fitting {α : Type} (enc : α → List Byte) : Nat → List α → List α × Nat
  | room, [] => ([], room)
  | room, x :: xs =>
    if (enc x).length ≤ room then
      let (ys, left) := fitting enc (room - (enc x).length) xs
      (x :: ys, left)
    else ([], room)

/-- The reply of READ_VEHICLE for 0: lists that would make the entry longer than 1024 bytes are cut, with MORE (R197, R198).
The entry's header and check word take 9 bytes, the two counts and MORE 3. -/
def bVehicles (vs : List VehicleLine) (ps : List PassEntry) : List Byte :=
  let (vs', room) := fitting bVehicleLine (Config.entryBytesMax - 12) vs
  let (ps', _) := fitting bPass room ps
  bList bVehicleLine vs' ++ bList bPass ps' ++ bFlag (decide (vs'.length < vs.length ∨ ps'.length < ps.length))

/-- A reply's result (R183). An item number or second object that a BAD_CONFIG has none of is 255, and the count of step 4
takes the one byte of the second object (R12). READ_PERMIT of a number sends the permit's record whole, then a list of its
sections as R103 reports them. (DESIGN CHOICE, log 19) -/
def ReplyResult.bytes : ReplyResult → List Byte
  | .none => []
  | .badConfig item n reason other => b8 item.ctorIdx ++ bId n ++ b8 reason.ctorIdx ++ bId other
  | .count n => b8 n
  | .status r => bStatus r
  | .measurements rs more overflow => bList bRecord rs ++ bFlag more ++ bFlag overflow
  | .feeder r => bFeeder r
  | .sect r => bSection r
  | .permit p secs => b16 p.number ++ bList b8 p.secs ++ b8 p.state.ctorIdx ++ bTime p.time ++ bList bPermitSection secs
  | .permits ps => bList (fun p : Permit => b16 p.number ++ b8 p.state.ctorIdx ++ bTime p.time) ps
  | .point r => bPoint r
  | .vehicle r => bVehicle r
  | .vehicles vs ps => bVehicles vs ps

/-! ## Entries -/

/-- An entry's bytes: its length, its fields, its check word. -/
def framed (fields : List Byte) : List Byte := withCheck (b16 (fields.length + 4 : Nat) ++ fields)

/-- An entry as the port clocks it out under its routing. (DESIGN CHOICE, log 19) -/
def Entry.bytes (r : Routing) : Entry → List Byte
  | .reply x => framed (b8 1 ++ b8 x.kind ++ b8 x.tag ++ b8 x.code.ctorIdx ++ bFlag x.clamped ++ x.result.bytes)
  | .notice n =>
    let urgent := n.body.urgent
    framed (b8 2 ++ b8 n.body.kind.code ++
      b8 ((if urgent then 1 else 0) + if urgent ∧ r = .shared then 2 else 0) ++ b8 n.body.subject ++ bTime n.time ++
      n.body.content)

end Sys2Proof.Machine
end

