-- ==== Sys2Proof/Machine/Ports.lean ====
section
/-! DEFINITION. The Port Controller (R180, R185, R187 to R194): read frames, framing errors, the attention line's gap and
pulse, and the requests every port takes. -/

namespace Sys2Proof.Machine

open Sys2Proof

/-! ## Read frames (R180, R185, R197) -/

/-- A read frame begins: the head entry, or a length of 0, is clocked out. A frame in progress goes on. -/
def PortState.beginRead (ps : PortState) : PortState :=
  match ps.reading, ps.queue with
  | .none, e :: _ => { ps with reading := .head, out := e.bytes ps.routing }
  | .none, [] => { ps with reading := .empty, out := [0, 0] }
  | _, _ => ps

/-- The attention line after a completed read, in PULSE mode: the gap where an attention entry remains (R192). -/
def PortState.afterRead (ps : PortState) : PortState :=
  { ps with pulse := if ps.lineMode = .pulse then (if ps.hasAttention then .gap else .inactive) else ps.pulse }

/-- The status byte has been clocked: ENTRY removes the head, EMPTY changes nothing. -/
def PortState.endRead (ps : PortState) : PortState :=
  match ps.reading with
  | .none => ps
  | .empty => { ps with reading := .none, status := some .empty }
  | .head => PortState.afterRead { ps with reading := .none, status := some .entry, queue := ps.queue.tail }

def execReadFrame (p : Port) (phase : ReadPhase) (s : State) : Host.Outcome State Fault Refusal :=
  match phase with
  | .begins => .next (s.amendPort p PortState.beginRead)
  | .completes => .next (s.amendPort p fun ps => ps.beginRead.endRead)

/-! ## Framing errors (R180, R187) -/

/-- The entry of `q` that coalesces with `e`, and `q` without it. -/
def takeNewer (e : Entry) : List Entry → Option (Entry × List Entry)
  | [] => none
  | x :: q =>
    match e with
    | .reply _ => none
    | .notice n =>
      if coalesces n x then some (x, q) else (takeNewer e q).map fun p => (p.1, x :: p.2)

/-- A newer notice of the head's kind and subject is merged into the head (R187). -/
def mergeHead : List Entry → List Entry
  | [] => []
  | e :: q =>
    match takeNewer e q with
    | none => e :: q
    | some (n, q) => n :: q

/-- The frame in progress is discarded: a read frame leaves its entry at the head, merged with a newer one. -/
def PortState.discardFrame (ps : PortState) : PortState :=
  match ps.reading with
  | .head => { ps with reading := .none, queue := mergeHead ps.queue }
  | _ => { ps with reading := .none }

def execFramingError (p : Port) (s : State) : Host.Outcome State Fault Refusal :=
  .next (s.amendPort p PortState.discardFrame)

/-! ## The attention line in PULSE mode (R192) -/

/-- The gap after a read ends in a pulse, while attention entries remain. -/
def PortState.gapEnds (ps : PortState) : PortState :=
  if ps.pulse = .gap then { ps with pulse := if ps.hasAttention then .pulsing else .inactive } else ps

/-- A pulse ends. -/
def PortState.pulseEnds (ps : PortState) : PortState :=
  if ps.pulse = .pulsing then { ps with pulse := .inactive } else ps

/-- The gap after a read ends (R192); its length is not counted. (DESIGN CHOICE, log 38) -/
def execAttentionGapEnd (p : Port) (s : State) : Host.Outcome State Fault Refusal :=
  .next (s.amendPort p PortState.gapEnds)

def execAttentionPulseEnd (p : Port) (s : State) : Host.Outcome State Fault Refusal :=
  .next (s.amendPort p PortState.pulseEnds)

/-! ## READ_STATUS (R179, R191) -/

def radioStatus (r : Rlc) : RadioStatus where
  rxEnable := r.rxEnable
  txEnable := r.txEnable
  rxAck := r.rxAck
  txAck := r.txAck
  received := r.rxQueue.length
  toSend := r.txQueue.length
  sending := r.sending.isSome
  allStop := r.allStop
  badRun := r.badRun
  degradedArmed := r.degradedArmed
  overrun := r.overrun
  overrunCount := r.overrunCount
  txOverflow := r.txOverflow

def statusPart (p : Port) (b : Blocks) : StatusPart :=
  match p with
  | .dispatch => .dispatch b.clc.presence.toList b.sq.mode b.sq.next b.sq.stopPending b.sq.cycles b.rlc.allStop b.rlc.txAck
  | .traffic =>
    .traffic b.dlc.queue.length (b.dlc.link.map fun x : DriveFlight => x.point) (radioStatus b.rlc)
  | .works => .works b.permits.length

/-- The report, counting the reply itself among the entries. -/
def statusReport (p : Port) (s : State) : StatusReport where
  mode := s.mode
  time := s.time
  entries := (s.port p).queue.length + 1
  notices := noticeCount (s.port p).queue
  noticeLost := (s.port p).noticeLost
  summaries := (s.port p).summaries
  masks := (s.port p).masks
  lineMode := (s.port p).lineMode
  gap := (s.port p).gap
  routing := (s.port p).routing
  urgent := s.blocks.po.urgent
  part := statusPart p s.blocks

/-- The flags cleared once they are reported (R179, R191). -/
def clearReported (p : Port) (s : State) : State :=
  let s := s.amendPort p fun ps => { ps with noticeLost := false, summaries := [] }
  match p with
  | .traffic =>
    { s with blocks := { s.blocks with rlc :=
        { s.blocks.rlc with overrun := false, overrunCount := 0, txOverflow := false } } }
  | _ => s

def answerReadStatus (p : Port) (s : State) : Answer :=
  { code := .done, result := .status (statusReport p s), after := clearReported p }

/-! ## SET_MASK, SET_LINE_MODE (R189, R194) -/

/-- A notice kind that the port receives and that can be masked (R189). -/
def readMask (p : Port) (code : Nat) : Option NoticeKind :=
  match noticeKindOf code with
  | none => none
  | some k => if p ∈ k.ports ∧ k.maskable = true then some k else none

def answerSetMask (p : Port) (kinds : List Nat) (_ : State) : Answer :=
  match kinds.mapM (readMask p) with
  | none => refuse .badArgument
  | some ks => { code := .done, after := fun s => s.amendPort p fun ps => { ps with masks := kindSet ks } }

/-- The three values set; leaving or entering PULSE ends any gap and pulse (R194). -/
def PortState.setLine (m : LineMode) (g : GapTime) (r : Routing) (ps : PortState) : PortState :=
  { ps with
    lineMode := m, gap := g, routing := r
    pulse := if m = .pulse ∧ ps.lineMode = .pulse then ps.pulse else .inactive }

def answerSetLineMode (p : Port) (mode gap routing : Nat) (_ : State) : Answer :=
  match lineModeOf mode, gapOf gap, routingOf routing with
  | some m, some g, some r => { code := .done, before := fun s => s.amendPort p (PortState.setLine m g r) }
  | _, _, _ => refuse .badArgument

def execReadStatus (p : Port) (tag : Nat) (s : State) : Host.Outcome State Fault Refusal :=
  .next (takeRequest p tag .readStatus (answerReadStatus p) s)

def execSetMask (p : Port) (tag : Nat) (kinds : List Nat) (s : State) : Host.Outcome State Fault Refusal :=
  .next (takeRequest p tag .setMask (answerSetMask p kinds) s)

def execSetLineMode (p : Port) (tag mode gap routing : Nat) (s : State) : Host.Outcome State Fault Refusal :=
  .next (takeRequest p tag .setLineMode (answerSetLineMode p mode gap routing) s)

end Sys2Proof.Machine
end

