-- ==== Sys2Proof/Machine/Tracking.lean ====
section
/-! DEFINITION. The Pass Matcher and the Vehicle Tracker (R141 to R158, R170 to R178): pass events, the Pass List, the
Vehicle Table, moves, the fault list, and the requests on vehicles. -/

namespace Sys2Proof.Machine

open Sys2Proof

/-! ## The Vehicle Table (R148) -/

def Blocks.vehicle? (b : Blocks) (v : Nat) : Option Vehicle := b.vt.vehicles.find? fun x => decide (x.id = v)

def Blocks.setVehicle (v : Vehicle) (b : Blocks) : Blocks :=
  { b with vt := { b.vt with vehicles := b.vt.vehicles.map fun x => if x.id = v.id then v else x } }

/-! ## Counts (R94, R95, R152, R154) -/

/-- VT writes the counts of a section: occupancy and inhibit, each through its function. -/
def writeCounts (sec : Option Nat) (occupancy inhibit : Nat → Nat) (b : Blocks) : Blocks :=
  match sec with
  | none => b
  | some sec => b.amendSection sec fun x => { x with occupancy := occupancy x.occupancy, inhibit := inhibit x.inhibit }

/-- A section's inhibit count; UNKNOWN has none. -/
def inhibitOf (b : Blocks) (sec : Option Nat) : Nat := (sec.map b.inhibit).getD 0

/-- SM acts on a section's inhibit count that stood at `was`: FC is told of a rise from 0 and of a return to 0 (R95). -/
def inhibitChanged (e : Env) (sec : Option Nat) (was : Nat) (b : Blocks) : Blocks :=
  match sec with
  | none => b
  | some sec =>
    let n := b.inhibit sec
    if was = 0 ∧ 0 < n then inhibitRises e sec b
    else if 0 < was ∧ n = 0 then inhibitReturns e sec b
    else b

/-- One up, or down, where a contribution is made. -/
def upIf (c : Bool) (n : Nat) : Nat := if c then n + 1 else n
def downIf (c : Bool) (n : Nat) : Nat := if c then n - 1 else n

/-! ## Moves (R142, R152, R153, R174) -/

/-- The section a pass enters; none is outside the zone (R142). -/
def entered (e : Env) (det : Nat) (d : Dir) : Option Nat :=
  match look e.net.detectors det with
  | none => none
  | some x =>
    match d with
    | .ab => x.sideB
    | .ba => x.sideA

/-- The vehicle's fault list holds LEAKAGE. -/
def Vehicle.leaks (v : Vehicle) : Bool := v.faults.any fun x => decide (x.code = .leakage)

/-- The section trip of a leakage: each feeder of the section, in ascending number (R174). -/
def sectionTrip (e : Env) (sec : Option Nat) (b : Blocks) : Blocks :=
  match sec, e.network.leakage with
  | some sec, .tripSection => onSectionFeeders e sec (fun f _ b => tripLive e f .vehicle b) b
  | _, _ => b

/-- The ENTERED notice of a move into a section (R153). -/
def sayEntered (e : Env) (v : Nat) (sec : Option Nat) (det : Nat) (confirmed : Bool) (b : Blocks) : Blocks :=
  match sec with
  | none => b
  | some sec =>
    match b.section? sec with
    | none => b
    | some x =>
      match x.state with
      | .dead => say e (.enteredDead v sec det confirmed) b
      | .isolated => say e (.enteredIsolated v sec x.permits det confirmed) b
      | .energised => b

/-- A move of a vehicle by a pass: counts, record, notices (R152, R153), then what the counts and a leakage cause (R95,
R174). `note` is the notice of the move from the old section to the new. -/
def moveVehicle (e : Env) (v det : Nat) (d : Dir) (confirmed : Bool) (note : Option Nat → Option Nat → NoticeBody)
    (b : Blocks) : Blocks :=
  match b.vehicle? v with
  | none => b
  | some x =>
    let old := x.sec
    let new := entered e det d
    let changed := decide (old ≠ new)
    let wasOld := inhibitOf b old
    let wasNew := inhibitOf b new
    let b := if changed then writeCounts old (· - 1) (downIf x.inhibits) b else b
    let b := b.setVehicle { x with sec := new, lastPass := some (det, d), unconfirmed := !confirmed }
    let b := if changed then writeCounts new (· + 1) (upIf x.inhibits) b else b
    let b := say e (note old new) b
    if changed then
      let b := sayEntered e v new det confirmed b
      let b := inhibitChanged e new wasNew (inhibitChanged e old wasOld b)
      if x.leaks then sectionTrip e new b else b
    else b

/-- A confirmed move (R153). -/
def confirmedMove (e : Env) (v det : Nat) (d : Dir) (contactTime telegramTime : Time) : Blocks → Blocks :=
  moveVehicle e v det d true fun old new => .vehicleMoved v old new det d contactTime telegramTime

/-- An unconfirmed move (R153). -/
def unconfirmedMove (e : Env) (v det : Nat) (d : Dir) (telegramTime : Time) (forced : Bool) : Blocks → Blocks :=
  moveVehicle e v det d false fun old new => .unconfirmedMove v old new det d telegramTime forced

/-! ## The Pass List (R143 to R147) -/

def PassEntry.isTelegram (det : Nat) (d : Dir) (x : PassEntry) : Bool :=
  decide (x.kind ≠ .contact ∧ x.det = det ∧ x.dir = d)

def PassEntry.isContact (det : Nat) (d : Dir) (x : PassEntry) : Bool :=
  decide (x.kind = .contact ∧ x.det = det ∧ x.dir = d)

def PassEntry.isOf (v : Nat) (x : PassEntry) : Bool := decide (x.kind = .telegram v)

/-- The effect of an entry's expiry, the entry already removed (R147). -/
def expireEntry (e : Env) (x : PassEntry) (forced : Bool) (b : Blocks) : Blocks :=
  match x.kind with
  | .contact => say e (.unidentifiedPass x.det x.dir x.time forced) b
  | .telegram v => unconfirmedMove e v x.det x.dir x.time forced b

/-- A list already holding 32 entries first forces its oldest to expire; then the entry is appended (R146). -/
def appendPass (e : Env) (x : PassEntry) (b : Blocks) : Blocks :=
  let b :=
    if b.passes.length < Config.passMax then b
    else
      match b.passes with
      | [] => b
      | old :: rest => expireEntry e old true { b with passes := rest }
  { b with passes := b.passes ++ [x] }

/-- A CONTACT arrival (R144). -/
def contactArrives (e : Env) (det : Nat) (d : Dir) (b : Blocks) : Blocks :=
  match b.passes.find? (PassEntry.isTelegram det d) with
  | some ⟨.telegram v, det', d', t⟩ =>
    confirmedMove e v det d e.time t { b with passes := b.passes.erase ⟨.telegram v, det', d', t⟩ }
  | _ => appendPass e ⟨.contact, det, d, e.time⟩ b

/-- A TELEGRAM arrival (R145). -/
def telegramArrives (e : Env) (v det : Nat) (d : Dir) (arrival : Time) (b : Blocks) : Blocks :=
  match b.passes.find? (PassEntry.isContact det d) with
  | some x => confirmedMove e v det d x.time arrival { b with passes := b.passes.erase x }
  | none =>
    let new : PassEntry := ⟨.telegram v, det, d, arrival⟩
    if b.passes.any fun x => x.isTelegram det d && x.isOf v then
      { b with passes := (b.passes.filter fun x => !(x.isTelegram det d && x.isOf v)) ++ [new] }
    else appendPass e new b

/-- The first entry in list order that has reached T_match expires (R147). -/
def passExpires (e : Env) (b : Blocks) : Blocks :=
  match b.passes.find? fun x => decide (e.network.tMatch ≤ elapsed e.time x.time) with
  | none => b
  | some x => expireEntry e x false { b with passes := b.passes.erase x }

/-! ## Removing a vehicle (R155) -/

def removeVehicle (e : Env) (x : Vehicle) (b : Blocks) : Blocks :=
  let was := inhibitOf b x.sec
  let b := inhibitChanged e x.sec was (writeCounts x.sec (· - 1) (downIf x.inhibits) b)
  let b := { b with passes := b.passes.filter fun p => !p.isOf x.id }
  let b := cancelVehicle e x.id b
  { b with vt := { vehicles := b.vt.vehicles.filter fun y => decide (y.id ≠ x.id), fullArmed := true } }

/-! ## Creating a record (R150) -/

/-- Of two LOST vehicles, the one evicted first: the longer silent, and among equals the lower identity. -/
def evictFirst (now : Time) (x y : Vehicle) : Vehicle :=
  if elapsed now x.heard < elapsed now y.heard then y
  else if elapsed now x.heard = elapsed now y.heard ∧ y.id < x.id then y
  else x

/-- The LOST vehicle to evict. -/
def evictable (now : Time) (vs : List Vehicle) : Option Vehicle :=
  match vs.filter (·.lost) with
  | [] => none
  | x :: xs => some (xs.foldl (evictFirst now) x)

/-- A new record (R150). -/
def newVehicle (v : Nat) (arrival : Time) : Vehicle where
  id := v
  lost := false
  sec := none
  lastPass := none
  heard := arrival
  unconfirmed := false
  faults := []

/-- A record joins the table, with VEHICLE_NEW. -/
def addVehicle (e : Env) (v : Nat) (k : RxKind) (arrival : Time) (b : Blocks) : Blocks :=
  say e (.vehicleNew v k) { b with vt := { b.vt with vehicles := b.vt.vehicles ++ [newVehicle v arrival] } }

/-- A record is created for a vehicle, after an eviction where none is free (R150). -/
def createVehicle (e : Env) (v : Nat) (k : RxKind) (arrival : Time) (b : Blocks) : Blocks :=
  if b.vt.vehicles.length < Config.vehicleMax then addVehicle e v k arrival b
  else
    match evictable e.time b.vt.vehicles with
    | some x => addVehicle e v k arrival (say e (.vehicleEvicted x.id x.sec x.heard v) (removeVehicle e x b))
    | none =>
      if b.vt.fullArmed then say e (.vehicleTableFull v k) { b with vt := { b.vt with fullArmed := false } } else b

/-! ## Fault entries (R170 to R177) -/

/-- The vehicle's fault list becomes `faults`; its contribution to the inhibit count of its section follows, and `after`
comes between the list and the count's consequences (R154). -/
def setFaults (e : Env) (x : Vehicle) (faults : List FaultEntry) (after : Blocks → Blocks) (b : Blocks) : Blocks :=
  let y : Vehicle := { x with faults := faults }
  let b := after (b.setVehicle y)
  let was := inhibitOf b x.sec
  let b :=
    writeCounts x.sec id (fun n => downIf (x.inhibits && !y.inhibits) (upIf (y.inhibits && !x.inhibits) n)) b
  inhibitChanged e x.sec was b

/-- The detector a FLT names, none unless it is loaded (R170). -/
def namedDetector (e : Env) (det : Nat) : Option Nat := if (look e.net.detectors det).isSome then some det else none

/-- The actions of a code beyond the inhibit: a DEWIRE blocks the point of its detector, a LEAKAGE trips its section (R173,
R174). -/
def faultActions (e : Env) (x : Vehicle) (code : FaultCode) (det : Option Nat) (b : Blocks) : Blocks :=
  match code with
  | .dewire =>
    match det with
    | none => b
    | some d =>
      match e.roleOf d with
      | none => b
      | some (pt, _) => blockPoint e pt d x.id b
  | .leakage => sectionTrip e x.sec b
  | _ => b

/-- A FLT from a vehicle of the table (R171, R172). -/
def takeFlt (e : Env) (v : Nat) (code : FaultCode) (detail det : Nat) (arrival : Time) (b : Blocks) : Blocks :=
  match b.vehicle? v with
  | none => b
  | some x =>
    let b :=
      if x.faults.any fun en => decide (en.code = code) then
        b.setVehicle
          { x with faults := x.faults.map fun en => if en.code = code then { en with last := arrival } else en }
      else
        let en : FaultEntry := ⟨code, detail, namedDetector e det, arrival, arrival⟩
        let faults := x.faults ++ [en]
        let note : NoticeBody :=
          .vehicleFault v code detail en.det x.sec { x with faults := faults }.state arrival
        faultActions e x code en.det (setFaults e x faults (say e note) b)
    handTelegram e (.fltAck v code) b

/-- The entries of a list that a CLR or CLEAR_FAULT names; none names ALL. -/
def namedEntries (code : Option FaultCode) (fs : List FaultEntry) : List FaultEntry :=
  match code with
  | none => fs
  | some c => fs.filter fun en => decide (en.code = c)

/-- The FAULT_CLEARED notices of the entries removed in turn, each with the vehicle's state after its removal (R176, R178).
(DEDUCED, log 30) -/
def clearedNotices (x : Vehicle) (src : ClearSource) : List FaultEntry → List FaultEntry → List NoticeBody
  | _, [] => []
  | left, en :: gone =>
    let left := left.filter fun y => decide (y.code ≠ en.code)
    .faultCleared x.id en.code src en.first en.last x.sec { x with faults := left }.state :: clearedNotices x src left gone

/-- Entries leave a vehicle's list by CLR or CLEAR_FAULT (R176, R177). -/
def clearFaults (e : Env) (v : Nat) (code : Option FaultCode) (src : ClearSource) (b : Blocks) : Blocks :=
  match b.vehicle? v with
  | none => b
  | some x =>
    let gone := namedEntries code x.faults
    if gone = [] then b
    else
      setFaults e x (x.faults.filter fun en => !decide (en ∈ gone))
        (sayAll e (clearedNotices x src x.faults gone)) b

/-! ## Taking a telegram (R149, R151) -/

def RxBody.vehicle : RxBody → Nat
  | .pos v _ _ => v
  | .flt v _ _ _ => v
  | .clr v _ => v

def RxBody.kind : RxBody → RxKind
  | .pos .. => .pos
  | .flt .. => .flt
  | .clr .. => .clr

/-- The record found: its last telegram time, and its return from LOST with VEHICLE_FOUND (R149, R151). -/
def hearVehicle (e : Env) (x : Vehicle) (arrival : Time) (b : Blocks) : Blocks :=
  let y : Vehicle := { x with heard := arrival, lost := false }
  let b := b.setVehicle y
  if x.lost then say e (.vehicleFound x.id x.sec y.state) b else b

/-- VT acts on a telegram of a vehicle that the table holds (R149). -/
def actOnTelegram (e : Env) (t : RxTelegram) (b : Blocks) : Blocks :=
  match t.body with
  | .pos v det d => if (namedDetector e det).isSome then telegramArrives e v det d t.arrival b else b
  | .flt v code detail det => takeFlt e v code detail det t.arrival b
  | .clr v code => clearFaults e v code .radio b

/-- VT takes the telegram at the head of the Receive Queue (R149). -/
def takeTelegram (e : Env) (b : Blocks) : Blocks :=
  match b.rlc.rxQueue with
  | [] => b
  | t :: ts =>
    let b := { b with rlc := { b.rlc with rxQueue := ts } }
    let v := t.body.vehicle
    match b.vehicle? v with
    | some x => actOnTelegram e t (hearVehicle e x t.arrival b)
    | none =>
      if t.body.kind = .clr then b
      else
        let b := createVehicle e v t.body.kind t.arrival b
        if (b.vehicle? v).isSome then actOnTelegram e t b else b

/-- A vehicle's silence timer expires: it becomes LOST (R151). -/
def silenceExpires (v : Nat) (e : Env) (b : Blocks) : Blocks :=
  match b.vehicle? v with
  | none => b
  | some x =>
    if timerDue (x.silence e) e.time then
      let b := b.setVehicle { x with lost := true }
      say e (.vehicleLost v x.sec x.heard) { b with vt := { b.vt with fullArmed := true } }
    else b

/-! ## Detector contacts (R141) -/

/-- Of the contact that closes: when it closes and whether the other was open; the pass it completes, if any. (DEDUCED, log
25) -/
def closing (now : Time) (own other : Option ClosedContact) (d : Dir) :
    Option ClosedContact × Option ClosedContact × Option Dir :=
  match own, other with
  | some c, _ => (some c, other, none)
  | none, none => (some ⟨now, true⟩, none, none)
  | none, some o =>
    if o.since = now then (some ⟨now, false⟩, some { o with otherOpen := false }, none)
    else (some ⟨now, false⟩, some o, if o.otherOpen then some d else none)

/-- A pass event of a loaded detector reaches PM, and PC for a detector with a point role (R141). (DEDUCED, log 12) -/
def passEvent (det : Nat) (d : Dir) (e : Env) (b : Blocks) : Blocks :=
  if (look e.net.detectors det).isSome then pointPass e det d (contactArrives e det d b) else b

/-- A detector's contact closes: the inputs, and the direction of the pass it completes. -/
def closeContact (det : Nat) (side : Side) (now : Time) (p : Pins) : Pins × Option Dir :=
  let a := p.detA[det]?.join
  let b := p.detB[det]?.join
  match side with
  | .b =>
    let (b', a', d) := closing now b a .ab
    ({ p with detA := p.detA.setIfInBounds det a', detB := p.detB.setIfInBounds det b' }, d)
  | .a =>
    let (a', b', d) := closing now a b .ba
    ({ p with detA := p.detA.setIfInBounds det a', detB := p.detB.setIfInBounds det b' }, d)

/-- A detector's contact closes (R141); in CONFIG the pass is discarded (R3). (DEDUCED, log 28) -/
def execDetectorContactClosing (det : Nat) (side : Side) (s : State) : Host.Outcome State Fault Refusal :=
  let (pins, d) := closeContact det side s.time s.pins
  let t := { s with pins := pins }
  match d with
  | none => .next t
  | some d => .next (t.inRun (passEvent det d))

/-- A detector's contact opens (R141): only the input changes. -/
def execDetectorContactOpening (det : Nat) (side : Side) (s : State) : Host.Outcome State Fault Refusal :=
  let p := s.pins
  let p :=
    match side with
    | .a => { p with detA := p.detA.setIfInBounds det none }
    | .b => { p with detB := p.detB.setIfInBounds det none }
  .next { s with pins := p }

/-! ## Requests (R156, R157, R177) -/

def answerRetire (v : Nat) (s : State) : Answer :=
  if v = 0 ∨ 4095 < v then refuse .badArgument
  else
    match s.blocks.vehicle? v with
    | none => refuse .noSuch
    | some x => effect .done (fun e => removeVehicle e x) (.count (vehicleReservations v s.blocks))

/-- The vehicles in ascending identity (R157). -/
def sortedVehicles (vs : List Vehicle) : List Vehicle := vs.insertionSort fun x y => x.id ≤ y.id

def answerReadVehicle (v : Nat) (s : State) : Answer :=
  if 4095 < v then refuse .badArgument
  else if v = 0 then
    { code := .done
      result :=
        .vehicles ((sortedVehicles s.blocks.vt.vehicles).map fun x => ⟨x.id, x.state, x.sec, x.unconfirmed⟩)
          s.blocks.passes }
  else
    match s.blocks.vehicle? v with
    | none => refuse .noSuch
    | some x =>
      { code := .done
        result :=
          .vehicle
            { vehicle := x, state := x.state, silenceLeft := timerLeft (x.silence s.env) s.time,
              waiting := (s.blocks.passes.filter (PassEntry.isOf v)).length } }

/-- CLEAR_FAULT's own checks, in the order of R177. -/
def answerClearFault (v code : Nat) (s : State) : Answer :=
  match faultOrAllOf code with
  | none => refuse .badArgument
  | some c =>
    if v = 0 ∨ 4095 < v then refuse .badArgument
    else
      match s.blocks.vehicle? v with
      | none => refuse .noSuch
      | some x =>
        let gone := namedEntries c x.faults
        if c.isSome ∧ gone = [] then refuse .noSuch
        else effect .done (fun e => clearFaults e v c .master) (.count gone.length)

/-! ## The commands -/

def execPassEntryExpiry (s : State) : Host.Outcome State Fault Refusal := .next (s.inRun passExpires)

def execSilenceExpiry (v : Nat) (s : State) : Host.Outcome State Fault Refusal := .next (s.inRun (silenceExpires v))

def execVtTakeTelegram (s : State) : Host.Outcome State Fault Refusal := .next (s.inRun takeTelegram)

def execRetire (p : Port) (tag v : Nat) (s : State) : Host.Outcome State Fault Refusal :=
  .next (takeRequest p tag .retire (answerRetire v) s)

def execReadVehicle (p : Port) (tag v : Nat) (s : State) : Host.Outcome State Fault Refusal :=
  .next (takeRequest p tag .readVehicle (answerReadVehicle v) s)

def execClearFault (p : Port) (tag v code : Nat) (s : State) : Host.Outcome State Fault Refusal :=
  .next (takeRequest p tag .clearFault (answerClearFault v code) s)

end Sys2Proof.Machine
end

