-- ==== Sys2Proof/Machine/Frames.lean ====
section
/-! DEFINITION. Request frames as bytes (R181, R196): the frame checks, and the request that a correct frame carries. -/

namespace Sys2Proof.Machine

open Sys2Proof

/-- Every request kind, in the order of its code (R182). -/
def ReqKind.all : List ReqKind :=
  [.closeFeeder, .openFeeder, .resetFeeder, .setProtection, .writeScan, .startScan, .stopScan, .resumeScan, .calibrate,
   .setMqThreshold, .readMeasurements, .readFeeder, .readSection, .allStop, .reserve, .cancel, .cancelVehicle,
   .flushPoint, .resetPoint, .readPoint] ++
  [.readVehicle, .clearFault, .retire, .radioEnable, .flushRadio, .loadNetwork, .loadSection, .loadFeeder,
   .loadDetector, .loadPoint, .startRun, .restart, .isolate, .release, .holdPoint, .freePoint, .readPermit,
   .readStatus, .setMask, .setLineMode]

/-- The request kind of a code. -/
def reqKindOf : Nat → Option ReqKind
  | 0 => none
  | n + 1 => ReqKind.all[n]?

/-- The meaning of a request that a frame carries; a frame carries no other command. -/
def execRequest (i : Instr) (s : State) : Host.Outcome State Fault Refusal :=
  match i with
  | .loadNetwork p tag a => execLoadNetwork p tag a s
  | .loadSection p tag sec => execLoadSection p tag sec s
  | .loadFeeder p tag a => execLoadFeeder p tag a s
  | .loadDetector p tag det a b => execLoadDetector p tag det a b s
  | .loadPoint p tag a => execLoadPoint p tag a s
  | .startRun p tag => execStartRun p tag s
  | .restart p tag => execRestart p tag s
  | .readStatus p tag => execReadStatus p tag s
  | .setMask p tag ks => execSetMask p tag ks s
  | .setLineMode p tag m g r => execSetLineMode p tag m g r s
  | .writeScan p tag es first len => execWriteScan p tag es first len s
  | .startScan p tag => execStartScan p tag s
  | .stopScan p tag => execStopScan p tag s
  | .resumeScan p tag => execResumeScan p tag s
  | .calibrate p tag ch => execCalibrate p tag ch s
  | .setMqThreshold p tag n => execSetMqThreshold p tag n s
  | .readMeasurements p tag n => execReadMeasurements p tag n s
  | .closeFeeder p tag f => execCloseFeeder p tag f s
  | .openFeeder p tag f => execOpenFeeder p tag f s
  | .resetFeeder p tag f => execResetFeeder p tag f s
  | .setProtection p tag f a => execSetProtection p tag f a s
  | .readFeeder p tag f => execReadFeeder p tag f s
  | .isolate p tag n secs => execIsolate p tag n secs s
  | .release p tag n => execRelease p tag n s
  | .readPermit p tag n => execReadPermit p tag n s
  | .readSection p tag sec => execReadSection p tag sec s
  | .reserve p tag pt pos v rtag => execReserve p tag pt pos v rtag s
  | .cancel p tag pt rtag => execCancel p tag pt rtag s
  | .flushPoint p tag pt => execFlushPoint p tag pt s
  | .cancelVehicle p tag v => execCancelVehicle p tag v s
  | .holdPoint p tag pt => execHoldPoint p tag pt s
  | .freePoint p tag pt => execFreePoint p tag pt s
  | .resetPoint p tag pt => execResetPoint p tag pt s
  | .readPoint p tag pt => execReadPoint p tag pt s
  | .retire p tag v => execRetire p tag v s
  | .readVehicle p tag v => execReadVehicle p tag v s
  | .clearFault p tag v c => execClearFault p tag v c s
  | .radioEnable p tag rx tx => execRadioEnable p tag rx tx s
  | .flushRadio p tag => execFlushRadio p tag s
  | .allStop p tag => execAllStop p tag s
  | _ => .next s

/-- A frame of a kind that no request has: BAD_ARGUMENT, once the Reply Queue has room (R181). -/
def takeUnknown (p : Port) (fr : RequestFrame) (s : State) : State :=
  if Config.replyQueueMax ≤ (s.port p).queue.length then
    s.amendPort p fun ps => { ps with status := some .queueFull }
  else
    (s.amendPort p fun ps => { ps with status := some .taken }).placeReply p
      { tag := fr.tag, kind := fr.kind, code := .badArgument, clamped := false, result := .none }

/-- The bytes of a request frame arrive (R181, R196). Bytes that are no complete request frame have no effect. -/
def execRequestFrame (p : Port) (bytes : List Byte) (s : State) : Host.Outcome State Fault Refusal :=
  match readRequestFrame bytes with
  | none => .next s
  | some fr =>
    if fr.ok then
      match reqKindOf fr.kind with
      | none => .next (takeUnknown p fr s)
      | some k =>
        match fr.request p with
        | none => .next (takeRequest p fr.tag k (fun _ => refuse .badArgument) s)
        | some i => execRequest i s
    else .next (s.amendPort p fun ps => { ps with status := some .badFrame })

end Sys2Proof.Machine
end

