-- ==== Sys2Proof/Machine/Dispatch.lean ====
section
/-! DEFINITION. The meaning of each command: one arm for each constructor of `Instr`. -/

namespace Sys2Proof.Machine

open Sys2Proof

def exec (i : Instr) (s : State) : Host.Outcome State Fault Refusal :=
  match i with
  | .loadNetwork p tag a => Sys2Proof.Machine.execLoadNetwork p tag a s
  | .loadSection p tag sec => Sys2Proof.Machine.execLoadSection p tag sec s
  | .loadFeeder p tag a => Sys2Proof.Machine.execLoadFeeder p tag a s
  | .loadDetector p tag det sideA sideB => Sys2Proof.Machine.execLoadDetector p tag det sideA sideB s
  | .loadPoint p tag a => Sys2Proof.Machine.execLoadPoint p tag a s
  | .startRun p tag => Sys2Proof.Machine.execStartRun p tag s
  | .restart p tag => Sys2Proof.Machine.execRestart p tag s
  | .powerOnReset => Sys2Proof.Machine.execPowerOnReset s
  | .lineTimeTick => Sys2Proof.Machine.execLineTimeTick s
  | .requestFrame p bytes => Sys2Proof.Machine.execRequestFrame p bytes s
  | .readFrame p phase => Sys2Proof.Machine.execReadFrame p phase s
  | .framingError p => Sys2Proof.Machine.execFramingError p s
  | .readStatus p tag => Sys2Proof.Machine.execReadStatus p tag s
  | .setMask p tag kinds => Sys2Proof.Machine.execSetMask p tag kinds s
  | .setLineMode p tag mode gap routing => Sys2Proof.Machine.execSetLineMode p tag mode gap routing s
  | .attentionGapEnd p => Sys2Proof.Machine.execAttentionGapEnd p s
  | .attentionPulseEnd p => Sys2Proof.Machine.execAttentionPulseEnd p s
  | .writeScan p tag entries first len => Sys2Proof.Machine.execWriteScan p tag entries first len s
  | .startScan p tag => Sys2Proof.Machine.execStartScan p tag s
  | .stopScan p tag => Sys2Proof.Machine.execStopScan p tag s
  | .resumeScan p tag => Sys2Proof.Machine.execResumeScan p tag s
  | .calibrate p tag channel => Sys2Proof.Machine.execCalibrate p tag channel s
  | .setMqThreshold p tag threshold => Sys2Proof.Machine.execSetMqThreshold p tag threshold s
  | .readMeasurements p tag count => Sys2Proof.Machine.execReadMeasurements p tag count s
  | .scanSettleExpiry => Sys2Proof.Machine.execScanSettleExpiry s
  | .converterAnswer a => Sys2Proof.Machine.execConverterAnswer a s
  | .converterAnswerExpiry => Sys2Proof.Machine.execConverterAnswerExpiry s
  | .staleTimerExpiry f => Sys2Proof.Machine.execStaleTimerExpiry f s
  | .contactReportOpen f => Sys2Proof.Machine.execContactReportOpen f s
  | .contactReportClosed f => Sys2Proof.Machine.execContactReportClosed f s
  | .tripTimerExpiry f => Sys2Proof.Machine.execTripTimerExpiry f s
  | .closeTimerExpiry f => Sys2Proof.Machine.execCloseTimerExpiry f s
  | .deadTimeExpiry f => Sys2Proof.Machine.execDeadTimeExpiry f s
  | .settleTimerExpiry f => Sys2Proof.Machine.execSettleTimerExpiry f s
  | .resetTimerExpiry f => Sys2Proof.Machine.execResetTimerExpiry f s
  | .closeFeeder p tag f => Sys2Proof.Machine.execCloseFeeder p tag f s
  | .openFeeder p tag f => Sys2Proof.Machine.execOpenFeeder p tag f s
  | .resetFeeder p tag f => Sys2Proof.Machine.execResetFeeder p tag f s
  | .setProtection p tag f a => Sys2Proof.Machine.execSetProtection p tag f a s
  | .readFeeder p tag f => Sys2Proof.Machine.execReadFeeder p tag f s
  | .isolate p tag number secs => Sys2Proof.Machine.execIsolate p tag number secs s
  | .release p tag number => Sys2Proof.Machine.execRelease p tag number s
  | .readPermit p tag number => Sys2Proof.Machine.execReadPermit p tag number s
  | .readSection p tag sec => Sys2Proof.Machine.execReadSection p tag sec s
  | .detectionContactChange pt leg contact => Sys2Proof.Machine.execDetectionContactChange pt leg contact s
  | .detectorContactClosing det side => Sys2Proof.Machine.execDetectorContactClosing det side s
  | .reserve p tag pt position vehicle rtag => Sys2Proof.Machine.execReserve p tag pt position vehicle rtag s
  | .cancel p tag pt rtag => Sys2Proof.Machine.execCancel p tag pt rtag s
  | .flushPoint p tag pt => Sys2Proof.Machine.execFlushPoint p tag pt s
  | .cancelVehicle p tag vehicle => Sys2Proof.Machine.execCancelVehicle p tag vehicle s
  | .holdTimerExpiry pt => Sys2Proof.Machine.execHoldTimerExpiry pt s
  | .holdPoint p tag pt => Sys2Proof.Machine.execHoldPoint p tag pt s
  | .freePoint p tag pt => Sys2Proof.Machine.execFreePoint p tag pt s
  | .resetPoint p tag pt => Sys2Proof.Machine.execResetPoint p tag pt s
  | .readPoint p tag pt => Sys2Proof.Machine.execReadPoint p tag pt s
  | .driveTransactionStart => Sys2Proof.Machine.execDriveTransactionStart s
  | .driveAnswer mark bytes => Sys2Proof.Machine.execDriveAnswer mark bytes s
  | .driveAnswerExpiry => Sys2Proof.Machine.execDriveAnswerExpiry s
  | .busyDelayExpiry pt => Sys2Proof.Machine.execBusyDelayExpiry pt s
  | .pointTimerExpiry pt => Sys2Proof.Machine.execPointTimerExpiry pt s
  | .passEntryExpiry => Sys2Proof.Machine.execPassEntryExpiry s
  | .silenceExpiry vehicle => Sys2Proof.Machine.execSilenceExpiry vehicle s
  | .vtTakeTelegram => Sys2Proof.Machine.execVtTakeTelegram s
  | .retire p tag vehicle => Sys2Proof.Machine.execRetire p tag vehicle s
  | .readVehicle p tag vehicle => Sys2Proof.Machine.execReadVehicle p tag vehicle s
  | .clearFault p tag vehicle code => Sys2Proof.Machine.execClearFault p tag vehicle code s
  | .radioEnable p tag receive transmit => Sys2Proof.Machine.execRadioEnable p tag receive transmit s
  | .flushRadio p tag => Sys2Proof.Machine.execFlushRadio p tag s
  | .allStop p tag => Sys2Proof.Machine.execAllStop p tag s
  | .receiveIdleGap => Sys2Proof.Machine.execReceiveIdleGap s
  | .transmitStart => Sys2Proof.Machine.execTransmitStart s
  | .transmitEnd => Sys2Proof.Machine.execTransmitEnd s
  | .radioByteArrival byte bad => Sys2Proof.Machine.execRadioByteArrival byte bad s
  | .detectorContactOpening det side => Sys2Proof.Machine.execDetectorContactOpening det side s

end Sys2Proof.Machine
end

