-- ==== Sys2Proof/Safety.lean ====
section
/-! DEFINITION. The words in which the statements speak: which command is a request, where the answer to a request stands, what
an event may touch, and the properties that every step keeps. -/

namespace Sys2Proof.Machine

open Sys2Proof

/-! ## Requests -/

/-- The port, tag and kind of a request; none for an event and for a frame given as bytes. -/
def requestOf : Instr → Option (Port × Nat × ReqKind)
  | .loadNetwork p tag _ => some (p, tag, .loadNetwork)
  | .loadSection p tag _ => some (p, tag, .loadSection)
  | .loadFeeder p tag _ => some (p, tag, .loadFeeder)
  | .loadDetector p tag _ _ _ => some (p, tag, .loadDetector)
  | .loadPoint p tag _ => some (p, tag, .loadPoint)
  | .startRun p tag => some (p, tag, .startRun)
  | .restart p tag => some (p, tag, .restart)
  | .readStatus p tag => some (p, tag, .readStatus)
  | .setMask p tag _ => some (p, tag, .setMask)
  | .setLineMode p tag _ _ _ => some (p, tag, .setLineMode)
  | .writeScan p tag _ _ _ => some (p, tag, .writeScan)
  | .startScan p tag => some (p, tag, .startScan)
  | .stopScan p tag => some (p, tag, .stopScan)
  | .resumeScan p tag => some (p, tag, .resumeScan)
  | .calibrate p tag _ => some (p, tag, .calibrate)
  | .setMqThreshold p tag _ => some (p, tag, .setMqThreshold)
  | .readMeasurements p tag _ => some (p, tag, .readMeasurements)
  | .closeFeeder p tag _ => some (p, tag, .closeFeeder)
  | .openFeeder p tag _ => some (p, tag, .openFeeder)
  | .resetFeeder p tag _ => some (p, tag, .resetFeeder)
  | .setProtection p tag _ _ => some (p, tag, .setProtection)
  | .readFeeder p tag _ => some (p, tag, .readFeeder)
  | .isolate p tag _ _ => some (p, tag, .isolate)
  | .release p tag _ => some (p, tag, .release)
  | .readPermit p tag _ => some (p, tag, .readPermit)
  | .readSection p tag _ => some (p, tag, .readSection)
  | .reserve p tag _ _ _ _ => some (p, tag, .reserve)
  | .cancel p tag _ _ => some (p, tag, .cancel)
  | .flushPoint p tag _ => some (p, tag, .flushPoint)
  | .cancelVehicle p tag _ => some (p, tag, .cancelVehicle)
  | .holdPoint p tag _ => some (p, tag, .holdPoint)
  | .freePoint p tag _ => some (p, tag, .freePoint)
  | .resetPoint p tag _ => some (p, tag, .resetPoint)
  | .readPoint p tag _ => some (p, tag, .readPoint)
  | .retire p tag _ => some (p, tag, .retire)
  | .readVehicle p tag _ => some (p, tag, .readVehicle)
  | .clearFault p tag _ _ => some (p, tag, .clearFault)
  | .radioEnable p tag _ _ => some (p, tag, .radioEnable)
  | .flushRadio p tag => some (p, tag, .flushRadio)
  | .allStop p tag => some (p, tag, .allStop)
  | .powerOnReset | .lineTimeTick | .requestFrame .. | .readFrame .. | .framingError .. | .attentionGapEnd ..
  | .attentionPulseEnd .. | .scanSettleExpiry | .converterAnswer .. | .converterAnswerExpiry | .staleTimerExpiry ..
  | .contactReportOpen .. | .contactReportClosed .. | .tripTimerExpiry .. | .closeTimerExpiry .. | .deadTimeExpiry ..
  | .settleTimerExpiry .. | .resetTimerExpiry .. | .detectionContactChange .. | .detectorContactClosing ..
  | .holdTimerExpiry .. | .driveTransactionStart | .driveAnswer .. | .driveAnswerExpiry | .busyDelayExpiry ..
  | .pointTimerExpiry .. | .passEntryExpiry | .silenceExpiry .. | .vtTakeTelegram | .receiveIdleGap | .transmitStart
  | .transmitEnd | .radioByteArrival .. | .detectorContactOpening .. => none

/-- The authority table, port by port (R182). -/
def authority : Port → List ReqKind
  | .dispatch =>
    [.closeFeeder, .openFeeder, .resetFeeder, .setProtection, .writeScan, .startScan, .stopScan, .resumeScan, .calibrate,
     .setMqThreshold, .readMeasurements, .readFeeder, .readSection, .allStop, .readStatus, .setMask, .setLineMode]
  | .traffic =>
    [.reserve, .cancel, .cancelVehicle, .flushPoint, .resetPoint, .readPoint, .readVehicle, .readSection, .clearFault,
     .retire, .radioEnable, .flushRadio, .allStop, .readStatus, .setMask, .setLineMode]
  | .works =>
    [.loadNetwork, .loadSection, .loadFeeder, .loadDetector, .loadPoint, .startRun, .restart, .isolate, .release,
     .holdPoint, .freePoint, .readPermit, .readSection, .readStatus, .setMask, .setLineMode]

/-- The requests taken in CONFIG (R1). -/
def configRequests : List ReqKind :=
  [.loadNetwork, .loadSection, .loadFeeder, .loadDetector, .loadPoint, .startRun, .restart, .readStatus, .setMask,
   .setLineMode]

/-- The requests refused WRONG_STATE in RUN (R2). -/
def loadRequests : List ReqKind := [.loadNetwork, .loadSection, .loadFeeder, .loadDetector, .loadPoint, .startRun]

/-- The port's Reply Queue has room for a reply (R181, R185). -/
abbrev Roomy (p : Port) (s : State) : Prop := (s.port p).queue.length < 32

/-- The request's frame is taken and its reply placed, and nothing else (R181, R183). -/
def State.answered (p : Port) (tag : Nat) (k : ReqKind) (c : ReplyCode) (clamped : Bool) (x : ReplyResult) (s : State) :
    State :=
  (s.amendPort p fun ps => { ps with status := some .taken }).placeReply p
    { tag := tag, kind := k.code, code := c, clamped := clamped, result := x }

/-- A request that may reach its own checks: its port's queue has room, its port may send its kind, and the device state takes
it (R1, R2, R181, R182). -/
abbrev Taken (p : Port) (k : ReqKind) (s : State) : Prop :=
  Roomy p s ∧ k ∈ authority p ∧ (s.mode = .config → k ∈ configRequests) ∧ (s.mode = .run → k ∉ loadRequests)

/-- The replies of a queue, in order. -/
def repliesOf (q : List Entry) : List Entry := q.filter fun e => !e.isNotice

/-! ## Settings -/

/-- Every field of a protection record but its timers is in its range, and θ_alarm is at most θ_trip (R9). -/
abbrev ThresholdsFit (a : ProtectionArgs) : Prop :=
  a.policy ≤ 1 ∧ a.nRc ≤ 4 ∧ 1 ≤ a.nLt ∧ a.nLt ≤ 8 ∧ 2 ≤ a.w ∧ a.w ≤ 16 ∧ 4 ≤ a.k ∧ a.k ≤ 15 ∧
    500 ≤ a.iInst ∧ a.iInst ≤ 12000 ∧ (a.iRev = 0 ∨ 100 ≤ a.iRev ∧ a.iRev ≤ 12000) ∧ 100 ≤ a.dIset ∧ a.dIset ≤ 6000 ∧
    1 ≤ a.thetaAlarm ∧ a.thetaAlarm ≤ 35156 ∧ 1 ≤ a.thetaTrip ∧ a.thetaTrip ≤ 35156 ∧ a.thetaAlarm ≤ a.thetaTrip ∧
    1000 ≤ a.rT ∧ a.rT ≤ 100000 ∧ 100 ≤ a.rMin ∧ a.rMin ≤ 50000 ∧ 100 ≤ a.vBf ∧ a.vBf ≤ 6000

/-- The range of every field of a Scan List entry on the kind of its channel (R22). -/
abbrev ScanFits (current : Bool) (a : ScanArgs) : Prop :=
  a.channel < 48 ∧ a.settle ≤ 255 ∧ a.record ≤ 1 ∧ a.mode ≤ 3 ∧ (-12000 ≤ a.limit1 ∧ a.limit1 ≤ 12000) ∧
    (-12000 ≤ a.limit2 ∧ a.limit2 ≤ 12000) ∧ a.hysteresis ≤ 1000 ∧ a.pause ≤ 1 ∧ (a.binding < 24 ∨ a.binding = 255) ∧
    (a.mode = 3 → 2 * (a.hysteresis : Int) ≤ a.limit2 - a.limit1) ∧ (a.binding ≠ 255 → a.mode = 2 ∧ current = false)

/-- The entry as it is written: limit state INSIDE (R21, R22). -/
def entryOf (a : ScanArgs) : ScanEntry where
  channel := a.channel
  settle := a.settle
  record := decide (a.record = 1)
  mode := if a.mode = 0 then .none else if a.mode = 1 then .above else if a.mode = 2 then .below else .outside
  limit1 := a.limit1
  limit2 := a.limit2
  hysteresis := a.hysteresis
  pause := decide (a.pause = 1)
  binding := if a.binding = 255 then none else some a.binding
  crossing := none

/-- The first member of a list that is `bad` behind the members before it. -/
def FirstOf (xs : List Nat) (bad : List Nat → Nat → Prop) (x : Nat) : Prop :=
  ∃ before after, xs = before ++ x :: after ∧ bad before x ∧ ∀ a y b, before = a ++ y :: b → ¬ bad a y

/-! ## What an event may touch -/

/-- The ports after notices, and nothing else, have been handed to them (R186). -/
def Notified (po po' : Po) : Prop := ∃ ns : List Notice, po' = ns.foldl (fun po n => po.placeOn n n.body.kind.ports) po

/-- The ports after notices, `n` among them, and nothing else, have been handed to them (R186). -/
def NotifiedOf (n : Notice) (po po' : Po) : Prop :=
  ∃ ns : List Notice, n ∈ ns ∧ po' = ns.foldl (fun po n => po.placeOn n n.body.kind.ports) po

/-- The ports after notices, those of `ms` among them in that order, and nothing else, have been handed to them (R186). -/
def NotifiedInOrder (ms : List Notice) (po po' : Po) : Prop :=
  ∃ ns : List Notice, ms.Sublist ns ∧ po' = ns.foldl (fun po n => po.placeOn n n.body.kind.ports) po

/-! ## Telegrams to the vehicles (R166, R167) -/

/-- A SEC_DEAD or SEC_LIVE of the section. -/
def TxTelegram.Broadcasts (t : TxTelegram) (sec : Nat) : Prop := t = .secLive sec ∨ ∃ st, t = .secDead sec st

/-- The queued telegram `old` is one that `new` replaces in place: a broadcast for the same section, or a PT_BLOCK for the same
point (R167). -/
def TxTelegram.Target (new old : TxTelegram) : Prop :=
  (∃ sec, new.Broadcasts sec ∧ old.Broadcasts sec) ∨ ∃ pt det det', new = .ptBlock pt det ∧ old = .ptBlock pt det'

/-- A telegram that no queued one gives its place to finds the Transmit Queue full (R167). -/
def Overflows (r : Rlc) (t : TxTelegram) : Prop := r.txAck = true ∧ (∀ u ∈ r.txQueue, ¬ t.Target u) ∧ 8 ≤ r.txQueue.length

/-- The telegram has been handed to the radio link that stood as `r`, whose Transmit Queue and overflow flag are now those of
`r'`: discarded while the transmit acknowledge is clear, in the place of the first that it replaces, at the tail, or lost (R166,
R167). -/
structure Handed (r : Rlc) (t : TxTelegram) (r' : Rlc) : Prop where
  off : r.txAck = false → r'.txQueue = r.txQueue ∧ r'.txOverflow = r.txOverflow
  replaces : ∀ a u c, r.txAck = true → r.txQueue = a ++ u :: c → t.Target u → (∀ w ∈ a, ¬ t.Target w) →
    r'.txQueue = a ++ t :: c ∧ r'.txOverflow = r.txOverflow
  appends : r.txAck = true → (∀ u ∈ r.txQueue, ¬ t.Target u) → r.txQueue.length < 8 →
    r'.txQueue = r.txQueue ++ [t] ∧ r'.txOverflow = r.txOverflow
  overflows : Overflows r t → r'.txQueue = r.txQueue ∧ r'.txOverflow = true

/-- The event has handed the radio link this telegram alone, with TX_OVERFLOW where its loss sets the flag (R166, R167). -/
def HandedOver (s : State) (t : TxTelegram) (b : Blocks) : Prop :=
  Handed s.blocks.rlc t b.rlc ∧
    (Overflows s.blocks.rlc t → s.blocks.rlc.txOverflow = false → NotifiedOf ⟨s.time, .txOverflow t⟩ s.blocks.po b.po)

/-! ## Records of an event -/

/-- From `b` to `c`: no more than the ports (by notices), the points, the Drive Queue and the Transmit Queue with its overflow
flag. -/
structure PointEvents (b c : Blocks) : Prop where
  clc : c.clc = b.clc
  sq : c.sq = b.sq
  mq : c.mq = b.mq
  feeders : c.feeders = b.feeders
  sections : c.sections = b.sections
  permits : c.permits = b.permits
  passes : c.passes = b.passes
  vt : c.vt = b.vt
  link : c.dlc.link = b.dlc.link
  rest : c.dlc.rest = b.dlc.rest
  rlc : c.rlc = { b.rlc with txQueue := c.rlc.txQueue, txOverflow := c.rlc.txOverflow }
  po : Notified b.po c.po

/-- From `b` to `c`: no more than the feeders, sections, permits, points, inserts and the walk's progress, the conversion in
flight, the ports (by notices), the Drive Queue and the Transmit Queue with its overflow flag. -/
structure FeederEvents (b c : Blocks) : Prop where
  mq : c.mq = b.mq
  passes : c.passes = b.passes
  vt : c.vt = b.vt
  presence : c.clc.presence = b.clc.presence
  clcRest : c.clc.rest = b.clc.rest
  length : c.sq.length = b.sq.length
  next : c.sq.next = b.sq.next
  stopPending : c.sq.stopPending = b.sq.stopPending
  cycles : c.sq.cycles = b.sq.cycles
  latest : c.sq.latest = b.sq.latest
  link : c.dlc.link = b.dlc.link
  dlcRest : c.dlc.rest = b.dlc.rest
  rlc : c.rlc = { b.rlc with txQueue := c.rlc.txQueue, txOverflow := c.rlc.txOverflow }
  po : Notified b.po c.po

/-- From `b` to `c`, as `FeederEvents`, and no record loses what belongs to the tables or to other events: a feeder's
connections, settings, offset and thermal value, a section's counts, a point's frame, counter, flags and sequence bit. -/
structure EventFrame (b c : Blocks) : Prop extends FeederEvents b c where
  feeders : ∀ f, (c.feeder? f).map (fun x => (x.conn, x.pu.offset, x.pu.theta)) =
    (b.feeder? f).map fun x => (x.conn, x.pu.offset, x.pu.theta)
  sections : ∀ sec, (c.section? sec).map (fun x => (x.occupancy, x.inhibit, x.permits)) =
    (b.section? sec).map fun x => (x.occupancy, x.inhibit, x.permits)
  points : ∀ pt,
    (c.point? pt).map (fun x => (x.frame, x.count, x.countFault, x.blocked, x.worksHeld, x.failed, x.seqBit)) =
      (b.point? pt).map fun x => (x.frame, x.count, x.countFault, x.blocked, x.worksHeld, x.failed, x.seqBit)

/-- Feeder `f` stands as `y`, but for its live-on-isolated arming, which follows its section (R104). -/
def Blocks.FeederIs (b : Blocks) (f : Nat) (y : Feeder) : Prop :=
  ∃ armed, b.feeder? f = some { y with liveArmed := armed }

/-- Feeder `f` is no partner of itself, and no request of it waits for an insert place. -/
abbrev Unentangled (f : Nat) (s : State) : Prop :=
  s.env.partner f ≠ some f ∧ ∀ w ∈ s.blocks.sq.waiting, w.feeder ≠ f

/-- A feeder waits for an insert place at most once, and then is in a waiting sub-phase (R29). -/
def WaitersWait (s : State) : Prop :=
  (s.blocks.sq.waiting.map (·.feeder)).Nodup ∧ ∀ w ∈ s.blocks.sq.waiting, ∃ y, s.blocks.feeder? w.feeder = some y ∧
    (y.state = .lineTest .waitSlot ∨ y.state = .lineTest .waitTestSlot)

/-- The feeder is CLOSING or CLOSED, where a trip acts on it (R68). -/
abbrev Feeder.Live (x : Feeder) : Prop := x.state = .closing ∨ x.state = .closed

/-- Feeder `f`, CLOSING or CLOSED as `x`, stands as `y` after PU has tripped it with `c` (R67, R68). With its contact CLOSED it
is TRIPPING, its cause `c` unless its partner's trip, over at once with an OPEN contact, makes it PARTNER (R81). With its contact
OPEN, as it is in CLOSING (R79), the trip is over at once, and the close-onto-fault mark leads to LOCKOUT (R68, R70). -/
structure PuTripped (s : State) (f : Nat) (x : Feeder) (c : Cause) (y : Feeder) : Prop where
  coils : y.closeCoil = false ∧ (y.tripCoil = true ↔ s.env.aux f = .closed)
  stale : y.pu.stale = none
  step : x.state = .closed → y.pu.step = none
  trips : s.env.aux f = .closed → y.state = .tripping ∧ y.closeOntoFault = decide (x.state = .closing) ∧
    y.stateTimer = some ⟨s.time, x.conn.settings.tTrip⟩ ∧ (y.cause = some c ∨ y.cause = some .partner) ∧
      ((∀ g z, s.env.partner f = some g → s.blocks.feeder? g = some z → z.Live → s.env.aux g = .closed) → y.cause = some c)
  locks : s.env.aux f = .opened → x.state = .closing →
    y.state = .lockout ∧ y.cause = some .closeOntoFault ∧ y.closeOntoFault = false ∧ y.stateTimer = none

/-- The state and cause in which an intertrip of a feeder ends whose contact reads OPEN (R68, R70, R73). -/
def openIntertrip (b : Blocks) (z : Feeder) : FeederState :=
  if (b.section? z.conn.sec).any fun q => decide (0 < q.inhibit) then .waitClear
  else if z.conn.settings.nRc = 0 then .lockout
  else .deadTime .timing

/-- The partner of the feeder `f` that PU has tripped is intertripped where it is CLOSING or CLOSED (R67): TRIPPING with its
contact CLOSED, and with it OPEN the trip is over at once; where `f` locks out in the same event, R81 follows. -/
def PartnerIntertripped (s : State) (f : Nat) (b : Blocks) : Prop :=
  ∀ g z, s.env.partner f = some g → s.blocks.feeder? g = some z → z.Live →
    ∃ w, b.feeder? g = some w ∧ w.closeCoil = false ∧
      (s.env.aux g = .closed → w.state = .tripping ∧ w.tripCoil = true ∧
        w.stateTimer = some ⟨s.time, z.conn.settings.tTrip⟩ ∧ (w.cause = some .intertrip ∨ w.cause = some .partner) ∧
        (s.env.aux f = .closed → w.cause = some .intertrip)) ∧
      (s.env.aux g = .opened → w.tripCoil = false ∧
        ((w.state = openIntertrip s.blocks z ∧ w.cause = some .intertrip) ∨
          (w.state = .lockout ∧ w.cause = some .partner)) ∧
        (s.env.aux f = .closed → w.cause = some .intertrip))

/-- The line test of `f` has been withdrawn, wherever it stood: it waits no more, has left the Insert Queue, and a conversion
that served it goes on to its end, its result to be discarded (R31). -/
structure Withdrawn (s : State) (f : Nat) (b : Blocks) : Prop where
  waits : ∀ v ∈ b.sq.waiting, v.feeder ≠ f
  leaves : (s.blocks.sq.inserts.filter fun i => decide (i.kind ≠ .calibrate ∧ i.who = f)).length ≤ 1 →
    (∀ v ∈ s.blocks.sq.waiting, v.feeder ≠ f) → ∀ i ∈ b.sq.inserts, i.kind ≠ .calibrate → i.who ≠ f
  discards : ∀ i rest tr, (∀ v ∈ s.blocks.sq.waiting, v.feeder ≠ f) → s.blocks.sq.inserts = i :: rest → i.kind ≠ .calibrate →
    i.who = f → s.blocks.sq.serving = true → s.blocks.clc.inFlight = some tr → tr.owner = .insert →
    b.clc.inFlight = some { tr with owner := .discarded }

/-- The partner of `f`, where it is a FOLLOWER, has been treated by R81's table: `f` has ended its sequence. -/
def FollowerLosesLeader (s : State) (f : Nat) (b : Blocks) : Prop :=
  ∀ g w, s.env.partner f = some g → s.blocks.feeder? g = some w → w.role = .follower →
    (w.state = .waitClear ∨ (∃ ph, w.state = .deadTime ph) ∨ (∃ ph, w.state = .lineTest ph) →
      (∃ u, b.feeder? g = some u ∧ u.state = .lockout ∧ u.cause = some .partner ∧ u.stateTimer = none ∧
        u.testContactor = false) ∧
      Withdrawn s g b) ∧
    (w.state = .tripping → b.FeederIs g (if w.cause = some .permit then w else { w with cause := some .partner })) ∧
    (w.Live → b.FeederIs g { w with role := .none }) ∧
    (w.state = .opened ∨ w.state = .lockout ∨ w.state = .held ∨ w.state = .breakerFail → b.FeederIs g w)

/-- The partner of `f`, where it is a FOLLOWER in AWAIT_LEADER, has entered LINE_TEST and asked for its precheck: `f` has entered
CLOSED (R74, R75, R81). -/
def FollowerTests (s : State) (f : Nat) (b : Blocks) : Prop :=
  ∀ g w, s.env.partner f = some g → s.blocks.feeder? g = some w → w.role = .follower → w.state = .deadTime .awaitLeader →
    ∃ u, b.feeder? g = some u ∧ u.role = .follower ∧ u.cause = w.cause ∧ u.attempts = w.attempts ∧
      ((u.state = .lineTest .precheck ∧ ⟨.precheck, g, w.conn.settings.nLt, []⟩ ∈ b.sq.inserts) ∨
        (u.state = .lineTest .waitSlot ∧ ⟨.precheck, g⟩ ∈ b.sq.waiting))

/-- The section, which has lost the last feeder that fed it, is DEAD with LOW_VOLTAGE clear, with its notice and its broadcast,
and each of its points that was MOVING has ended POWER_LOST (R91, R92, R123, R167). -/
def SectionDies (s : State) (sec : Nat) (z : SectionRec) (b : Blocks) : Prop :=
  (∃ y, b.section? sec = some y ∧ y.state = .dead ∧ y.lowVoltage = false) ∧
    NotifiedOf ⟨s.time, .sectionState sec .dead false z.occupancy z.inhibit z.permits⟩ s.blocks.po b.po ∧
    (s.blocks.rlc.txAck = true → .secDead sec .dead ∈ b.rlc.txQueue ∨ b.rlc.txOverflow = true) ∧
    (WaitersWait s → HandedOver s (.secDead sec .dead) b) ∧
    ∀ pt x, s.blocks.point? pt = some x → x.frame.sec = sec → x.drive = .moving →
      ∃ y, b.point? pt = some y ∧ y.lastResult = some .powerLost ∧ y.drive ≠ .moving ∧ y.target = none ∧
        y.link.tPoint = none

/-- The permit `p` of before stands as `q` after a change of a feeder of one of its sections: decided over the feeders as they
stand now, FAILED kept, a change stamped (R101). -/
structure Redecided (s : State) (b : Blocks) (p q : Permit) : Prop where
  names : q.number = p.number ∧ q.secs = p.secs
  keeps : p.state = .failed → q = p
  stamps : q.state ≠ p.state → q.time = s.time
  fails : p.state ≠ .failed → (∃ g y, b.feeder? g = some y ∧ y.conn.sec ∈ p.secs ∧ y.state = .breakerFail) →
    q.state = .failed
  grants : p.state ≠ .failed → (∀ g y, b.feeder? g = some y → y.conn.sec ∈ p.secs → y.state = .held) → q.state = .granted
  waits : p.state ≠ .failed → (∀ g y, b.feeder? g = some y → y.conn.sec ∈ p.secs → y.state ≠ .breakerFail) →
    (∃ g y, b.feeder? g = some y ∧ y.conn.sec ∈ p.secs ∧ y.state ≠ .held) → q.state = .pending

/-- Every permit that names the section is decided again (R101). -/
def PermitsRedecided (s : State) (sec : Nat) (b : Blocks) : Prop :=
  ∀ p ∈ s.blocks.permits, sec ∈ p.secs → ∃ q ∈ b.permits, Redecided s b p q

/-- The link is free for a conversion (R16, R19). -/
abbrev LinkFree (b : Blocks) : Prop := b.clc.inFlight = none ∧ b.clc.rest = none

/-- The transaction that a conversion request of channel `ch` begins: its input, under the select of its converter (R19). -/
def requested (now : Time) (ch : Nat) (owner : ConversionOwner) : Conversion where
  channel := ch
  select := ch / 8
  bytes := [BitVec.ofNat 8 (ch % 8)]
  expiry := ⟨now, 2⟩
  owner := owner

/-- The blocks as the entry `x` at the pointer begins: its settle delay runs, or its conversion is asked for (R24). -/
def entryBegun (now : Time) (x : ScanEntry) (b : Blocks) : Blocks :=
  if 0 < x.settle then { b with sq := { b.sq with mode := .settle, settle := some ⟨now, x.settle⟩ } }
  else if b.clc.inFlight.isNone ∧ b.clc.rest.isNone then
    { b with
      sq := { b.sq with mode := .converting, settle := none }
      clc := { b.clc with inFlight := some (requested now x.channel .walk) } }
  else { b with sq := { b.sq with mode := .settle, settle := none } }

/-- `ch` is the channel of the next conversion of the insert `i`, by the table of inserts (R29, R30). -/
def InsertChannel (b : Blocks) (i : Insert) (ch : Nat) : Prop :=
  (i.kind = .calibrate → ch = i.who) ∧
    ∀ x, b.feeder? i.who = some x →
      (i.kind = .precheck → ch = x.conn.lineCh) ∧
      (i.kind = .test → ch = if i.results.length % 2 = 0 then x.conn.busCh else x.conn.lineCh)

/-- SQ serves the head of the Insert Queue of `b`, in which the link is free, as `c`: its next conversion is asked for, and an
empty queue leaves all as it is (R30). -/
def ServesHead (now : Time) (b c : Blocks) : Prop :=
  (b.sq.inserts = [] → c = b) ∧
    ∀ i rest, b.sq.inserts = i :: rest → ∃ ch, InsertChannel b i ch ∧
      c = { b with
        sq := { b.sq with serving := true }, clc := { b.clc with inFlight := some (requested now ch .insert) } }

/-- The sample that a result of the conversion makes (R41). -/
def sampleAt (b : Blocks) (ch : Nat) (valid : Bool) (code : Int) : Sample :=
  classify (isCurrent b ch) (offsetOf b ch) valid code

/-- The conversion in flight serves the insert `i` at the head of the queue, and nothing else holds the link (R30). -/
structure InService (s : State) (tr : Conversion) (i : Insert) (rest : List Insert) : Prop where
  run : s.mode = .run
  flight : s.blocks.clc.inFlight = some tr
  owner : tr.owner = .insert
  channel : tr.channel < 48
  inserts : s.blocks.sq.inserts = i :: rest
  link : s.blocks.clc.rest = none
  serving : s.blocks.sq.serving = true
  mode : s.blocks.sq.mode = .between ∨ s.blocks.sq.mode = .stopped ∨ s.blocks.sq.mode = .paused

/-- The conversion in flight is that of the walk entry `en` at the pointer (R24). -/
structure Walking (s : State) (tr : Conversion) (en : ScanEntry) : Prop where
  run : s.mode = .run
  flight : s.blocks.clc.inFlight = some tr
  owner : tr.owner = .walk
  entry : look s.blocks.sq.slots s.blocks.sq.next = some en
  channel : en.channel = tr.channel
  inRange : tr.channel < 48
  mode : s.blocks.sq.mode = .converting

/-- The bytes of a correct converter answer for the channel: its code and status (R199). -/
def CorrectAnswer (bytes : List Byte) (ch : Nat) (code : Int) (valid : Bool) : Prop :=
  ch < 256 ∧ checkOk bytes = true ∧ ∃ hi lo c1 c0 : Byte,
    bytes = [BitVec.ofNat 8 ch, hi, lo, if valid then 1 else 0, c1, c0] ∧ code = (hi ++ lo).toInt

/-- Feeder `f` is `x`, and no other feeder's current channel is its own (R12). -/
def OwnsCurrent (b : Blocks) (f : Nat) (x : Feeder) : Prop :=
  b.feeder? f = some x ∧ ∀ g y, b.feeder? g = some y → y.conn.currentCh = x.conn.currentCh → g = f

/-- The presence of the converters once a correct answer for the channel has ended its transaction (R20). -/
def presenceAfter (b : Blocks) (ch : Nat) (valid : Bool) : Vector Presence 6 :=
  if valid then b.clc.presence.setIfInBounds (ch / 8) .present else b.clc.presence

/-- The command `c` ends the conversion `tr` in flight: a correct answer with its code and status, or the 2 ms expiry, which is
not VALID with code 0 and leaves the converter FAILED (R19, R20). -/
def ConversionEnds (s : State) (tr : Conversion) (c : Instr) (code : Int) (valid : Bool) (presence : Vector Presence 6) :
    Prop :=
  (∃ bytes, c = .converterAnswer ⟨false, bytes⟩ ∧ CorrectAnswer bytes tr.channel code valid ∧
      presence = presenceAfter s.blocks tr.channel valid) ∨
    (c = .converterAnswerExpiry ∧ tr.expiry.setting ≤ (s.time - tr.expiry.start).toNat ∧ code = 0 ∧ valid = false ∧
      presence = s.blocks.clc.presence.setIfInBounds (tr.channel / 8) .failed)

/-- What begins on the free link as the walk entry `en` completes, by what stands in `c` afterwards: the head insert, which a
walk that goes on lets through between two entries, or the entry at the pointer; in STOPPED and PAUSED with no insert nothing
(R24, R26 steps 4 and 5, R30). -/
structure Continues (s : State) (en : ScanEntry) (c : Blocks) : Prop where
  inserts : ∀ i rest, c.sq.inserts = i :: rest → c.sq.serving = true ∧
    ∃ ch, InsertChannel c i ch ∧ c.clc.inFlight = some (requested s.time ch .insert)
  between : c.sq.inserts ≠ [] → s.blocks.sq.stopPending = false → en.pause = false → c.sq.mode = .between
  rests : c.sq.inserts = [] → s.blocks.sq.stopPending = true ∨ en.pause = true → c.clc.inFlight = none
  entry : c.sq.inserts = [] → s.blocks.sq.stopPending = false → en.pause = false →
    ∀ y, look c.sq.slots c.sq.next = some y →
      (0 < y.settle → c.sq.mode = .settle ∧ c.sq.settle = some ⟨s.time, y.settle⟩ ∧ c.clc.inFlight = none) ∧
      (y.settle = 0 → c.sq.mode = .converting ∧ c.sq.settle = none ∧
        c.clc.inFlight = some (requested s.time y.channel .walk))

/-- What the end of the walk entry `en` leaves of sequencer, latest values, presence and Measurement Queue (R25, R26, R37,
R40), and what begins next. -/
structure WalkDone (s : State) (en : ScanEntry) (x : Sample) (presence : Vector Presence 6) (c : Blocks) : Prop where
  latest : look c.sq.latest en.channel = some ⟨x.cls, x.value, s.time⟩
  others : ∀ ch, ch ≠ en.channel → look c.sq.latest ch = look s.blocks.sq.latest ch
  presence : c.clc.presence = presence
  records : c.mq.records =
    if en.record then
      (if s.blocks.mq.records.length < 64 then s.blocks.mq.records else s.blocks.mq.records.tail) ++
        [⟨s.blocks.sq.next, en.channel, x.cls, x.value, s.time, s.blocks.sq.cycles⟩]
    else s.blocks.mq.records
  overflow : c.mq.overflow = (s.blocks.mq.overflow || (en.record && decide (64 ≤ s.blocks.mq.records.length)))
  threshold : c.mq.threshold = s.blocks.mq.threshold
  armed : c.mq.armed =
    (s.blocks.mq.armed && !(en.record && decide (s.blocks.mq.threshold ≤ c.mq.records.length)))
  next : c.sq.next = if s.blocks.sq.next + 1 < s.blocks.sq.length then s.blocks.sq.next + 1 else 0
  cycles : c.sq.cycles = if s.blocks.sq.next + 1 < s.blocks.sq.length then s.blocks.sq.cycles else s.blocks.sq.cycles + 1
  stopPending : c.sq.stopPending = false
  stops : s.blocks.sq.stopPending = true → c.sq.mode = .stopped
  pauses : s.blocks.sq.stopPending = false → en.pause = true → c.sq.mode = .paused
  walks : s.blocks.sq.stopPending = false → en.pause = false → c.sq.mode ≠ .stopped ∧ c.sq.mode ≠ .paused
  continues : s.blocks.clc.rest = none → Continues s en c
  vt : c.vt = s.blocks.vt
  passes : c.passes = s.blocks.passes
  rlc : c.rlc = { s.blocks.rlc with txQueue := c.rlc.txQueue, txOverflow := c.rlc.txOverflow }
  link : c.dlc.link = s.blocks.dlc.link
  po : Notified s.blocks.po c.po

/-- Nothing but the blocks differs. -/
def OnlyBlocks (s t : State) : Prop := t = { s with blocks := t.blocks }

/-- The commands that may change a vehicle or a Pass List entry. -/
def movesVehicles : Instr → Bool
  | .powerOnReset | .restart .. | .requestFrame .. | .detectorContactClosing .. | .passEntryExpiry | .silenceExpiry _
  | .vtTakeTelegram | .retire .. | .clearFault .. => true
  | _ => false

/-- The commands that may change the Measurement Queue or a latest value. -/
def measures : Instr → Bool
  | .powerOnReset | .restart .. | .startRun .. | .requestFrame .. | .converterAnswer _ | .converterAnswerExpiry
  | .setMqThreshold .. | .readMeasurements .. => true
  | _ => false

/-- The commands that may change the radio link, its Transmit Queue and TX_OVERFLOW flag apart. -/
def worksRadio : Instr → Bool
  | .powerOnReset | .lineTimeTick | .restart .. | .requestFrame .. | .vtTakeTelegram | .readStatus .. | .radioEnable ..
  | .flushRadio .. | .allStop .. | .receiveIdleGap | .transmitStart | .transmitEnd | .radioByteArrival .. => true
  | _ => false

/-- The commands that may change the drive link's transaction. -/
def worksDriveLink : Instr → Bool
  | .powerOnReset | .restart .. | .requestFrame .. | .driveTransactionStart | .driveAnswer .. | .driveAnswerExpiry => true
  | _ => false

/-- The events of the field, of the three links and of the timers of RUN. -/
def fieldEvent : Instr → Bool
  | .scanSettleExpiry | .converterAnswer _ | .converterAnswerExpiry | .staleTimerExpiry _ | .contactReportOpen _
  | .contactReportClosed _ | .tripTimerExpiry _ | .closeTimerExpiry _ | .deadTimeExpiry _ | .settleTimerExpiry _
  | .resetTimerExpiry _ | .detectionContactChange .. | .detectorContactClosing .. | .detectorContactOpening ..
  | .holdTimerExpiry _ | .driveTransactionStart | .driveAnswer .. | .driveAnswerExpiry | .busyDelayExpiry _
  | .pointTimerExpiry _ | .passEntryExpiry | .silenceExpiry _ | .vtTakeTelegram | .receiveIdleGap | .transmitStart
  | .transmitEnd | .radioByteArrival .. => true
  | _ => false

/-- The permits' numbers and sections, in the order of the table. -/
def Blocks.permitNames (b : Blocks) : List (Nat × List Nat) := b.permits.map fun p => (p.number, p.secs)

/-- The newer notice `n` and `m` are of one coalescible kind and of one subject (R187). -/
abbrev SameSubject (m n : Notice) : Prop :=
  n.body.kind.coalescible = true ∧ m.body.kind = n.body.kind ∧ m.body.subject = n.body.subject

/-- The entries of a port among which a replacement target stands: all, but for a head that a read frame clocks out (R187). -/
def PortState.replaceable (ps : PortState) : List Entry := if ps.reading = .head then ps.queue.tail else ps.queue

/-! ## Points -/

/-- What a point's reservations are, less what head service makes of them. -/
def Point.names (x : Point) : List (Leg × Option Nat × Nat) := x.queue.map fun r => (r.position, r.vehicle, r.rtag)

/-- Only the head of a point's queue is ACTIVE or overdue, and an overdue head waits for a collector to leave (R111, R120). -/
abbrev Point.Tidy (x : Point) : Prop :=
  (∀ r ∈ x.queue.tail, r.active = none ∧ r.overdue = false) ∧
    ∀ r, x.queue.head? = some r → r.overdue = true → 0 < x.count

/-- No FAILED, BLOCKED or WORKS_HELD flag is set. -/
abbrev Point.Unstopped (x : Point) : Prop := x.failed = false ∧ x.blocked = false ∧ x.worksHeld = false

/-- Point `pt` alone may differ from `b` to `c`, of all points. -/
def OnlyPoint (pt : Nat) (b c : Blocks) : Prop := ∀ q, q ≠ pt → c.point? q = b.point? q

/-- An event of point `pt`, and of no other point, has changed nothing outside the blocks. -/
structure AtPoint (pt : Nat) (s t : State) (b : Blocks) : Prop where
  rest : OnlyBlocks s t
  events : PointEvents b t.blocks
  others : OnlyPoint pt b t.blocks

/-- The parts of a point that belong to the tables, the collectors and the stop flags. -/
def Point.standing (x : Point) : PointRec × Nat × Bool × Bool × Bool × Bool × Bool :=
  (x.frame, x.count, x.countFault, x.blocked, x.worksHeld, x.failed, x.seqBit)

/-- VT has told PC to block the point that the detector serves (R124, R173): its drive unit at work finishes, and otherwise it
stops; the vehicles are told where it was not blocked, and the FLT is acknowledged (R167, R175). -/
def PointBlocks (s : State) (b : Blocks) (det v : Nat) : Prop :=
  ∀ pt role x, (look s.net.detectors det).isSome = true → s.env.roleOf det = some (pt, role) → s.blocks.point? pt = some x →
    NotifiedOf ⟨s.time, .pointBlocked pt det v⟩ s.blocks.po b.po ∧
    (x.blocked = false → s.blocks.rlc.txAck = true → .ptBlock pt det ∈ b.rlc.txQueue ∨ b.rlc.txOverflow = true) ∧
    (x.blocked = false → ∃ q lost,
      let r : Rlc := { s.blocks.rlc with txQueue := q, txOverflow := lost }
      HandedOver s (.ptBlock pt det) { b with rlc := r } ∧ Handed r (.fltAck v .dewire) b.rlc) ∧
    (x.blocked = true → HandedOver s (.fltAck v .dewire) b) ∧
    ∃ y, b.point? pt = some y ∧ y.standing = { x with blocked := true }.standing ∧
      (x.drive = .sending ∨ x.drive = .moving → y.drive = x.drive) ∧
      (x.drive ≠ .sending → x.drive ≠ .moving → y.drive = if x.failed = true then .failed else .blocked)

/-! ## Vehicle faults -/

/-- Feeder `f`, CLOSING or CLOSED as `w`, has been tripped for a vehicle: TRIPPING with its contact CLOSED, and with it OPEN the
trip is over at once, in WAIT_CLEAR over an inhibit (R68, R70, R82, R174). -/
def VehicleTripped (s : State) (b : Blocks) (f : Nat) (w : Feeder) : Prop :=
  ∃ u, b.feeder? f = some u ∧ u.cause = some .vehicle ∧ u.closeCoil = false ∧ u.closeOntoFault = false ∧
    (s.env.aux f = .closed → u.state = .tripping ∧ u.tripCoil = true ∧
      u.stateTimer = some ⟨s.time, w.conn.settings.tTrip⟩) ∧
    (s.env.aux f = .opened → ∀ y, b.section? w.conn.sec = some y → 0 < y.inhibit →
      u.state = .waitClear ∧ u.tripCoil = false)

/-- The vehicle `x` has moved into `new`, another section than its own: one that holds LEAKAGE trips, with TRIP_SECTION, every
feeder of that section that is CLOSING or CLOSED; otherwise these stay (R152, R174). -/
def MoveActs (s : State) (b : Blocks) (x : Vehicle) (new : Option Nat) : Prop :=
  ∀ sec net f w, new = some sec → x.sec ≠ some sec → s.net.network = some net → s.blocks.feeder? f = some w →
    w.conn.sec = sec → w.Live →
    let leaks := ∃ y ∈ x.faults, y.code = .leakage
    (leaks → net.leakage = .tripSection → VehicleTripped s b f w) ∧
      (¬ leaks ∨ net.leakage = .notify → b.FeederIs f w)

/-- What a new fault `code` of the vehicle `x` does to the section it stands in (R82, R95, R154, R173, R174): an inhibiting fault,
its first, raises the inhibit count, and a rise from 0 sends every feeder in DEAD_TIME or LINE_TEST to WAIT_CLEAR; a LEAKAGE with
TRIP_SECTION trips every feeder CLOSING or CLOSED, over at once where its contact reads OPEN; otherwise these stay. -/
def FaultActs (s : State) (b : Blocks) (x : Vehicle) (code : FaultCode) (leakage : LeakAction) : Prop :=
  ∀ sec z, x.sec = some sec → s.blocks.section? sec = some z →
    let inhibits (c : FaultCode) := c = .dewire ∨ c = .leakage
    let first := inhibits code ∧ ∀ y ∈ x.faults, ¬ inhibits y.code
    ∃ y, b.section? sec = some y ∧ y.occupancy = z.occupancy ∧ (first → y.inhibit = z.inhibit + 1) ∧
      (¬ first → y.inhibit = z.inhibit) ∧
      ∀ f w, s.blocks.feeder? f = some w → w.conn.sec = sec →
        (first → z.inhibit = 0 → (∃ ph, w.state = .deadTime ph) ∨ (∃ ph, w.state = .lineTest ph) →
          b.FeederIs f
            { w with
              state := .waitClear, stateTimer := none, resetTimer := none, tripCoil := false, closeCoil := false
              testContactor := false, pu := { w.pu with stale := none } }) ∧
        (code ≠ .leakage ∨ leakage = .notify → w.Live → b.FeederIs f w) ∧
        (code = .leakage → leakage = .tripSection → w.Live →
          VehicleTripped s b f w)

/-- A section's inhibit count has fallen by one, with `left` vehicles gone from its occupancy, and a return to 0 has sent every
feeder in WAIT_CLEAR into a fresh dead time (R82, R94, R95, R154). -/
def InhibitFalls (s : State) (b : Blocks) (sec : Option Nat) (left : Nat) : Prop :=
  ∀ n z, sec = some n → s.blocks.section? n = some z →
    (∃ y, b.section? n = some y ∧ y.occupancy = z.occupancy - left ∧ y.inhibit = z.inhibit - 1) ∧
    (z.inhibit = 1 → ∀ f w, s.blocks.feeder? f = some w → w.conn.sec = n → w.state = .waitClear →
      b.FeederIs f
        { w with
          state := .deadTime .timing, stateTimer := some ⟨s.time, w.conn.settings.tDead⟩, resetTimer := none
          tripCoil := false, closeCoil := false, testContactor := false, pu := { w.pu with stale := none } })

/-- The fault inhibits the reclosing of a section (R154). -/
abbrev FaultEntry.Inhibits (y : FaultEntry) : Prop := y.code = .dewire ∨ y.code = .leakage

/-- The vehicle `x` has left the section it stood in: the occupancy falls, and with an inhibiting fault the inhibit count, which
otherwise stays (R94, R95, R154). -/
def VehicleLeaves (s : State) (b : Blocks) (x : Vehicle) : Prop :=
  ((∃ y ∈ x.faults, y.Inhibits) → InhibitFalls s b x.sec 1) ∧
    ((∀ y ∈ x.faults, ¬ y.Inhibits) → ∀ n z, x.sec = some n → s.blocks.section? n = some z →
      ∃ y, b.section? n = some y ∧ y.occupancy = z.occupancy - 1 ∧ y.inhibit = z.inhibit)

/-- The vehicle `x` has entered the section `new`, another than its own: the occupancy rises, and with an inhibiting fault the
inhibit count, whose rise from 0 sends every feeder in DEAD_TIME or LINE_TEST to WAIT_CLEAR (R82, R94, R95, R152). -/
def VehicleEnters (s : State) (b : Blocks) (x : Vehicle) (new : Option Nat) : Prop :=
  ∀ n z, new = some n → s.blocks.section? n = some z →
    let inhibits := ∃ y ∈ x.faults, y.Inhibits
    (∃ y, b.section? n = some y ∧ y.occupancy = z.occupancy + 1 ∧ (inhibits → y.inhibit = z.inhibit + 1) ∧
      (¬ inhibits → y.inhibit = z.inhibit)) ∧
    (inhibits → z.inhibit = 0 → ∀ f w, s.blocks.feeder? f = some w → w.conn.sec = n →
      (∃ ph, w.state = .deadTime ph) ∨ (∃ ph, w.state = .lineTest ph) →
        b.FeederIs f
          { w with
            state := .waitClear, stateTimer := none, resetTimer := none, tripCoil := false, closeCoil := false
            testContactor := false, pu := { w.pu with stale := none } })

/-! ## Properties that every step keeps -/

/-- A Reply Queue holds at most 32 entries, at most 28 of them notices (R185). -/
def PortsBounded (s : State) : Prop :=
  ∀ p, (s.port p).queue.length ≤ 32 ∧ noticeCount (s.port p).queue ≤ 28

/-- The outputs of every feeder are those of its state (R65). -/
def OutputsFollow (s : State) : Prop :=
  ∀ f x, s.blocks.feeder? f = some x →
    (x.tripCoil = true ↔ x.state = .tripping) ∧ (x.closeCoil = true ↔ x.state = .closing) ∧
      (x.testContactor = true ↔ x.state = .lineTest .settle ∨ x.state = .lineTest .test)

/-- Every thermal value lies in its range (R47). -/
def ThetaInRange (s : State) : Prop := ∀ f x, s.blocks.feeder? f = some x → 0 ≤ x.pu.theta ∧ x.pu.theta ≤ 35156

/-- Every collector count is at most 3, and a point holds at most four reservations, no two with one tag, of which only the
head is ACTIVE or overdue, and overdue only over a collector (R110, R111, R120). -/
def PointsBounded (s : State) : Prop :=
  ∀ pt x, s.blocks.point? pt = some x →
    x.count ≤ 3 ∧ x.queue.length ≤ 4 ∧ (x.queue.map (·.rtag)).Nodup ∧ x.Tidy

/-- The Measurement Queue, the Permit Table, the Pass List, the Vehicle Table, the radio's two queues and every history ring are
within their places (R37, R46, R98, R143, R148, R164, R166). -/
def CapacitiesHeld (s : State) : Prop :=
  s.blocks.mq.records.length ≤ 64 ∧ s.blocks.permits.length ≤ 32 ∧ s.blocks.passes.length ≤ 32 ∧
    s.blocks.vt.vehicles.length ≤ 64 ∧ s.blocks.rlc.rxQueue.length ≤ 16 ∧ s.blocks.rlc.txQueue.length ≤ 8 ∧
    ∀ f x, s.blocks.feeder? f = some x → x.pu.ring.length ≤ 16

/-- The Drive Queue holds each point at most once and so at most 16 (R130): a point in it has work pending and no BUSY delay
running, the point that holds the link is not in it, and a point in its BUSY delay or MOVING is in neither (R131, R134, R135). -/
structure DriveQueueSound (s : State) : Prop where
  idle : s.mode = .config → s.blocks.dlc.link = none
  places : s.blocks.dlc.queue.length ≤ 16
  once : s.blocks.dlc.queue.Nodup
  ready : ∀ pt ∈ s.blocks.dlc.queue, ∃ x, s.blocks.point? pt = some x ∧ x.link.work ≠ .none ∧ x.link.busyDelay = none
  holder : ∀ fl, s.blocks.dlc.link = some fl → fl.point ∉ s.blocks.dlc.queue ∧
    ∃ x, s.blocks.point? fl.point = some x ∧ x.link.busyDelay = none ∧
      (fl.resync = true → x.link.work = .resync ∨ x.link.work = .resyncThenThrow) ∧
      (fl.resync = false → x.link.work = .throw ∧ x.drive = .sending)
  works : ∀ pt x, s.blocks.point? pt = some x → (x.drive = .moving → x.link.work = .none) ∧
    (x.link.busyDelay ≠ none → x.link.work ≠ .none ∧ (x.link.work = .throw → x.drive = .sending))

/-- The Insert Queue, the slot wait list, the Drive Queue and every fault list are within their places, with no feeder, point or
code twice (R29, R130, R170). -/
def QueuesHeld (s : State) : Prop :=
  s.blocks.sq.inserts.length ≤ 4 ∧ (s.mode = .config → s.blocks.sq.waiting = []) ∧ s.blocks.sq.waiting.length ≤ 16 ∧
    WaitersWait s ∧ DriveQueueSound s ∧
      ∀ v ∈ s.blocks.vt.vehicles, v.faults.length ≤ 5 ∧ (v.faults.map (·.code)).Nodup

/-- In CONFIG every block is as a reset leaves it, but for the ports, and for the two rests after the reset, which may have
run out (R1, R15, R16). -/
def ConfigIdle (s : State) : Prop :=
  s.mode = .config →
    s.derived = Derived.empty ∧
      s.blocks =
        { Blocks.initial s.blocks.rlc.lastByte with
          clc := { (Blocks.initial 0).clc with rest := s.blocks.clc.rest }
          dlc := { (Blocks.initial 0).dlc with rest := s.blocks.dlc.rest }
          po := s.blocks.po }

/-- In RUN the tables pass every check of R12, the derived lists are those of R13, and the objects that run are those the
tables hold, with the connections and frames they hold (R2, R5, R13). -/
def RunAgrees (s : State) : Prop :=
  s.mode = .run →
    configFault s.net = none ∧ s.derived = derive s.net ∧
      (∀ f, (s.blocks.feeder? f).map (fun x : Feeder => x.conn) = look s.net.feeders f) ∧
      (∀ sec, (s.blocks.section? sec).isSome = (look s.net.sections sec).isSome) ∧
      ∀ pt, (s.blocks.point? pt).map (fun x : Point => x.frame) = look s.net.points pt

/-- No vehicle holds two records, and every section's occupancy and inhibit counts are the numbers of the vehicles located
in it, and of those of them that hold DEWIRE or LEAKAGE (R94, R95, R150). -/
def CountsAgree (s : State) : Prop :=
  (s.blocks.vt.vehicles.map (·.id)).Nodup ∧ (s.mode = .config → s.blocks.vt.vehicles = []) ∧
    ∀ sec x, s.blocks.section? sec = some x →
      x.occupancy = (s.blocks.vt.vehicles.filter fun v => decide (v.sec = some sec)).length ∧
        x.inhibit =
          (s.blocks.vt.vehicles.filter fun v =>
            decide (v.sec = some sec) &&
              v.faults.any fun y => decide (y.code = .dewire ∨ y.code = .leakage)).length

/-- No two permits share a number, every section's permit count is the number of permits that name it, and a section is
ISOLATED exactly while that count is above 0 (R91, R96, R98). -/
def PermitsAgree (s : State) : Prop :=
  (s.blocks.permits.map (·.number)).Nodup ∧ (∀ p ∈ s.blocks.permits, p.secs.Nodup) ∧
    (s.mode = .config → s.blocks.permits = []) ∧
    ∀ sec x, s.blocks.section? sec = some x →
      x.permits = (s.blocks.permits.filter fun p => decide (sec ∈ p.secs)).length ∧
        (x.state = .isolated ↔ 0 < x.permits)

/-- The Pass List's entries for one detector and direction are of one kind, and no two TELEGRAM entries have one vehicle,
detector and direction (R143). -/
def PassesMatched (s : State) : Prop :=
  (∀ x ∈ s.blocks.passes, ∀ y ∈ s.blocks.passes,
      x.det = y.det → x.dir = y.dir → (x.kind = .contact ↔ y.kind = .contact)) ∧
    ((s.blocks.passes.filter fun x => decide (x.kind ≠ .contact)).map fun x => (x.kind, x.det, x.dir)).Nodup

/-- A breaker's contact reads CLOSED in CLOSED and TRIPPING, and OPEN in every other state but BREAKER_FAIL (R68, R70, R72,
R79). -/
def ContactsAgree (s : State) : Prop :=
  ∀ f x, s.blocks.feeder? f = some x →
    (x.state = .closed ∨ x.state = .tripping → s.env.aux f = .closed) ∧
      (x.state ≠ .closed → x.state ≠ .tripping → x.state ≠ .breakerFail → s.env.aux f = .opened)

/-- An uncovered section is ENERGISED exactly when one of its feeders is CLOSED, or TRIPPING with its contact CLOSED, and DEAD
otherwise (R91). -/
def StatesDerived (s : State) : Prop :=
  ∀ sec z, s.blocks.section? sec = some z → z.permits = 0 → (z.state = .energised ∨ z.state = .dead) ∧
    (z.state = .energised ↔ ∃ f x, s.blocks.feeder? f = some x ∧ x.conn.sec = sec ∧
      (x.state = .closed ∨ (x.state = .tripping ∧ s.env.aux f = .closed)))

/-- In a covered section every feeder is HELD, TRIPPING for the permit, or failed, and none is so elsewhere, failure apart; in an
inhibited section none is in DEAD_TIME or LINE_TEST (R82, R83). An uncovered section's state is the one R91 derives, contacts
agree with the feeders' states, and who waits for an insert place waits once, in a waiting sub-phase. -/
def SectionsObeyed (s : State) : Prop :=
  WaitersWait s ∧ ContactsAgree s ∧ StatesDerived s ∧
    ∀ f x z, s.blocks.feeder? f = some x → s.blocks.section? x.conn.sec = some z →
      (0 < z.permits → x.state = .held ∨ x.state = .breakerFail ∨ (x.state = .tripping ∧ x.cause = some .permit)) ∧
        (z.permits = 0 → x.state ≠ .held ∧ (x.state = .tripping → x.cause ≠ some .permit)) ∧
        (0 < z.inhibit → (∀ ph, x.state ≠ .deadTime ph) ∧ ∀ ph, x.state ≠ .lineTest ph)

end Sys2Proof.Machine
end

