-- ==== Sys2Proof/Certificates/Slice0/Obligations.lean ====
section
/-! DEFINITION. The statements for the provers. -/

open Sys2Proof Sys2Proof.Machine

/-! ## Steps and the whole machine -/

/-- A step takes the command at the front of the queue and runs it on the state with the rest of the queue. On an empty
queue the part idles: the model's choice (log 5). -/
def Obligations.StepRunsTheFrontCommand : Prop :=
  (∀ (c : Instr) (rest : List Instr) (s : State), s.pending = c :: rest → step s = exec c { s with pending := rest }) ∧
    ∀ s : State, s.pending = [] → step s = .next s

/-- Every command answers a next state and leaves the queue of commands; line time advances by one at a tick alone, modulo
2^32, and is 0 after a power-on reset (R17, R18); the inputs change by contact reports and the power-on reset alone, in
CONFIG as in RUN, and in CONFIG the events of the field change nothing else (R1, R3). That the pins are followed in CONFIG
is the model's reading (log 28), and that a timer's end is a command of its own, its choice (log 6). -/
def Obligations.TimeAndInputsMoveByTheirOwnCommands : Prop :=
  ∀ (i : Instr) (s : State), ∃ t, exec i s = .next t ∧ t.pending = s.pending ∧
    (s.mode = .config → fieldEvent i = true → t = { s with pins := t.pins }) ∧
    (i = .lineTimeTick → t.time = s.time + 1) ∧ (i = .powerOnReset → t.time = 0) ∧
    (i ≠ .lineTimeTick → i ≠ .powerOnReset → t.time = s.time) ∧
    (∀ f, f < 16 → (i = .contactReportOpen f → t.env.aux f = .opened) ∧ (i = .contactReportClosed f → t.env.aux f = .closed) ∧
      (i ≠ .contactReportOpen f → i ≠ .contactReportClosed f → t.env.aux f = s.env.aux f)) ∧
    (∀ pt, pt < 16 →
      (∀ c, i = .detectionContactChange pt .left c → t.env.leftContact pt = c ∧ t.env.rightContact pt = s.env.rightContact pt) ∧
      (∀ c, i = .detectionContactChange pt .right c → t.env.rightContact pt = c ∧ t.env.leftContact pt = s.env.leftContact pt) ∧
      ((∀ leg c, i ≠ .detectionContactChange pt leg c) →
        t.env.leftContact pt = s.env.leftContact pt ∧ t.env.rightContact pt = s.env.rightContact pt)) ∧
    ((∀ det side, i ≠ .detectorContactClosing det side ∧ i ≠ .detectorContactOpening det side) → i ≠ .powerOnReset →
      t.pins.detA = s.pins.detA ∧ t.pins.detB = s.pins.detB)

/-- In RUN the device state, the derived lists and the loaded tables stay, the settings of a feeder apart, through every
command but the resets and a frame (which may carry RESTART); in CONFIG the device stays in CONFIG through every command but
START_RUN and a frame (R1, R2). -/
def Obligations.RunKeepsTheLoadedTables : Prop :=
  ∀ (i : Instr) (s t : State), exec i s = .next t → i ≠ .powerOnReset → (∀ p tag, i ≠ .restart p tag) →
    (∀ p bytes, i ≠ .requestFrame p bytes) →
    (s.mode = .run →
      t.mode = .run ∧ t.derived = s.derived ∧ t.net.network = s.net.network ∧ t.net.sections = s.net.sections ∧
        t.net.detectors = s.net.detectors ∧ t.net.points = s.net.points ∧
        (∀ f, (look t.net.feeders f).map (fun r => (r.sec, r.bus, r.currentCh, r.busCh, r.lineCh)) =
          (look s.net.feeders f).map fun r => (r.sec, r.bus, r.currentCh, r.busCh, r.lineCh)) ∧
        ((∀ p tag f a, i ≠ .setProtection p tag f a) → t.net = s.net)) ∧
      (s.mode = .config → (∀ p tag, i ≠ .startRun p tag) → t.mode = .config ∧ t.derived = s.derived)

/-- Which commands may change what: vehicles and passes, measurements and latest values, the radio link, the drive link's
transaction, and the permits' numbers and sections. -/
def Obligations.BlocksChangeByTheirOwnCommands : Prop :=
  ∀ (i : Instr) (s t : State), exec i s = .next t →
    (movesVehicles i = false → t.blocks.vt = s.blocks.vt ∧ t.blocks.passes = s.blocks.passes) ∧
    (measures i = false → t.blocks.mq = s.blocks.mq ∧ t.blocks.sq.latest = s.blocks.sq.latest) ∧
    (worksRadio i = false →
      t.blocks.rlc =
        { s.blocks.rlc with txQueue := t.blocks.rlc.txQueue, txOverflow := t.blocks.rlc.txOverflow }) ∧
    (worksDriveLink i = false → t.blocks.dlc.link = s.blocks.dlc.link) ∧
    ((s.blocks.permits.map (·.number)).Nodup → i ≠ .powerOnReset → (∀ p bytes, i ≠ .requestFrame p bytes) →
      (∀ p tag, i ≠ .restart p tag) → (∀ p tag n secs, i ≠ .isolate p tag n secs) → (∀ p tag n, i ≠ .release p tag n) →
      t.blocks.permitNames = s.blocks.permitNames)

/-! ## Properties that every step keeps -/

/-- Every step keeps each Reply Queue within 32 entries and its notices within 28 (R185). -/
def Obligations.StepKeepsPortsBounded : Prop :=
  ∀ s t : State, PortsBounded s → step s = .next t → PortsBounded t

/-- Every step keeps every feeder's outputs those of its state (R65). -/
def Obligations.StepKeepsOutputsFollowingStates : Prop :=
  ∀ s t : State, OutputsFollow s → step s = .next t → OutputsFollow t

/-- Every step keeps every thermal value in 0 to 35156, whatever the settings (R47). -/
def Obligations.StepKeepsThetaInRange : Prop :=
  ∀ s t : State, ThetaInRange s → step s = .next t → ThetaInRange t

/-- Every step keeps every collector count at most 3, and every point's reservations at most four with distinct tags, only the
head ACTIVE or overdue, and overdue only over a collector (R110, R111, R120). -/
def Obligations.StepKeepsPointsBounded : Prop :=
  ∀ s t : State, PointsBounded s → step s = .next t → PointsBounded t

/-- Every step keeps every queue and table within its places: the Measurement Queue, history rings, permits, passes, vehicles and
the radio's queues (R37, R46, R98, R143, R148, R164, R166); and, on tables that RUN has checked, the Insert Queue with its slot
wait list, the Drive Queue with each point once, and every fault list with each code once (R29, R130, R170). The Reply Queues
are in StepKeepsPortsBounded, the reservations in StepKeepsPointsBounded. -/
def Obligations.StepKeepsCapacities : Prop :=
  (∀ s t : State, CapacitiesHeld s → step s = .next t → CapacitiesHeld t) ∧
    ∀ s t : State, RunAgrees s → QueuesHeld s → step s = .next t → QueuesHeld t

/-- Every step keeps the field idle in CONFIG (R1). -/
def Obligations.StepKeepsConfigIdle : Prop :=
  ∀ s t : State, ConfigIdle s → step s = .next t → ConfigIdle t

/-- Every step keeps RUN on checked tables, with the derived lists and the objects of those tables (R2, R5, R12, R13). -/
def Obligations.StepKeepsRunOnCheckedTables : Prop :=
  ∀ s t : State, RunAgrees s → step s = .next t → RunAgrees t

/-- Every step keeps the occupancy and inhibit counts those of the Vehicle Table (R94, R95, R150). -/
def Obligations.StepKeepsVehicleCounts : Prop :=
  ∀ s t : State, CountsAgree s → step s = .next t → CountsAgree t

/-- Every step keeps the permit counts those of the Permit Table, and a section ISOLATED exactly while a permit names it
(R91, R96). -/
def Obligations.StepKeepsPermitCounts : Prop :=
  ∀ s t : State, PermitsAgree s → step s = .next t → PermitsAgree t

/-- Every step keeps the Pass List free of a CONTACT and a TELEGRAM that match, and of a TELEGRAM entry held twice (R143). -/
def Obligations.StepKeepsPassesMatched : Prop :=
  ∀ s t : State, PassesMatched s → step s = .next t → PassesMatched t

/-- Every step keeps every feeder obeying the permits and the inhibit of its section: none closes, tests or waits to reclose
in a covered section, none is HELD in an uncovered one, and none is in DEAD_TIME or LINE_TEST in an inhibited one (R82, R83).
It keeps every uncovered section ENERGISED exactly while one of its feeders is CLOSED, or TRIPPING with its contact CLOSED,
and DEAD otherwise (R91), and with it that a contact reads CLOSED in CLOSED and TRIPPING and OPEN in every other state but
BREAKER_FAIL. -/
def Obligations.StepKeepsSectionsObeyed : Prop :=
  ∀ s t : State, ConfigIdle s → RunAgrees s → SectionsObeyed s → step s = .next t → SectionsObeyed t

/-- The state after the power-on reset has every one of these properties. -/
def Obligations.ResetHasEveryKeptProperty : Prop :=
  PortsBounded State.reset ∧ OutputsFollow State.reset ∧ ThetaInRange State.reset ∧ PointsBounded State.reset ∧
    CapacitiesHeld State.reset ∧ ConfigIdle State.reset ∧ RunAgrees State.reset ∧ CountsAgree State.reset ∧
    PermitsAgree State.reset ∧ PassesMatched State.reset ∧ SectionsObeyed State.reset ∧ QueuesHeld State.reset

/-! ## Requests and their replies -/

/-- A request that finds 32 entries in its port's queue is not executed and leaves QUEUE_FULL alone; with room, a kind outside
the port's authority, and no other, is refused NOT_PERMITTED; in CONFIG, a kind that R1 does not name NOT_RUNNING; in RUN, a
load or START_RUN WRONG_STATE; and nothing else happens (R1, R2, R181, R182). -/
def Obligations.RequestsRefusedBeforeTheirOwnChecks : Prop :=
  ∀ (i : Instr) (p : Port) (tag : Nat) (k : ReqKind) (s : State), requestOf i = some (p, tag, k) →
    (32 ≤ (s.port p).queue.length →
      exec i s = .next (s.setPort p { s.port p with status := some .queueFull })) ∧
    (Roomy p s → k ∉ authority p → exec i s = .next (s.answered p tag k .notPermitted false .none)) ∧
    (Roomy p s → k ∈ authority p → exec i s ≠ .next (s.answered p tag k .notPermitted false .none)) ∧
    (Roomy p s → k ∈ authority p → s.mode = .config → k ∉ configRequests →
      exec i s = .next (s.answered p tag k .notRunning false .none)) ∧
    (Roomy p s → k ∈ authority p → s.mode = .run → k ∈ loadRequests →
      exec i s = .next (s.answered p tag k .wrongState false .none))

/-- A request that finds room is replied to once, on its own port, under its tag and kind, with the frame status TAKEN; its
reply comes after every entry that was there (or first, in the queue that RESTART empties), before every notice of its event,
and no reply of any port is lost to it (R181, R183). -/
def Obligations.ReplyComesBeforeItsNotices : Prop :=
  ∀ (i : Instr) (p : Port) (tag : Nat) (k : ReqKind) (s t : State), requestOf i = some (p, tag, k) → Roomy p s →
    exec i s = .next t →
    ∃ before r after, (t.port p).queue = before ++ .reply r :: after ∧ r.tag = tag ∧ r.kind = k.code ∧
      (∀ e ∈ after, e.isNotice = true) ∧ (t.port p).status = some .taken ∧
      (k = .restart ∧ r.code = .done → before = []) ∧
      (¬ (k = .restart ∧ r.code = .done) →
        before.length = (s.port p).queue.length ∧ repliesOf before = repliesOf (s.port p).queue ∧
          ∀ q, q ≠ p → repliesOf (t.port q).queue = repliesOf (s.port q).queue)

/-- A frame that fails check 1 leaves BAD_FRAME alone; with room, a code that no kind has, or arguments that do not fit their
kind, is refused BAD_ARGUMENT (after the port's authority and the device state, for a known kind); a frame that carries a
request has that request's meaning; bytes that are no whole frame have no effect: the model's choice (log 27), as is the order
in which the arguments of LOAD_POINT and WRITE_SCAN are read (logs 19 and 20) (R181, R196). -/
def Obligations.RequestFramesCarryRequests : Prop :=
  ∀ (p : Port) (bytes : List Byte) (s : State),
    (readRequestFrame bytes = none → exec (.requestFrame p bytes) s = .next s) ∧
    ∀ fr, readRequestFrame bytes = some fr →
      (fr.ok = false → exec (.requestFrame p bytes) s = .next (s.setPort p { s.port p with status := some .badFrame })) ∧
      (fr.ok = true → Roomy p s → fr.kind = 0 ∨ 40 < fr.kind →
        ∃ t, exec (.requestFrame p bytes) s = .next t ∧
          t = (s.setPort p { s.port p with status := some .taken }).placeReply p
            { tag := fr.tag, kind := fr.kind, code := .badArgument, clamped := false, result := .none }) ∧
      (∀ k, fr.ok = true → k.code = fr.kind → fr.request p = none → Taken p k s →
        exec (.requestFrame p bytes) s = .next (s.answered p fr.tag k .badArgument false .none)) ∧
      ∀ i, fr.ok = true → fr.request p = some i →
        ∃ t k, exec (.requestFrame p bytes) s = .next t ∧ exec i s = .next t ∧
          requestOf i = some (p, fr.tag, k) ∧ k.code = fr.kind

/-! ## Configuration -/

/-- The settings a load or SET_PROTECTION carries are refused exactly when a field outside the timers is out of its range,
or θ_alarm lies above θ_trip; taken, each timer is moved to the nearer end of its range, CLAMPED says whether one was moved,
and every other field stands as it came (R4, R9). -/
def Obligations.SettingsAreTakenByTheirRanges : Prop :=
  ∀ a : ProtectionArgs,
    (¬ ThresholdsFit a → readProtection a = none) ∧
    (ThresholdsFit a →
      ∃ clamped, readProtection a =
          some
            ({ tDead := max 100 (min 60000 a.tDead), tSettle := max 20 (min 2000 a.tSettle)
               tClose := max 20 (min 1000 a.tClose), tTrip := max 20 (min 1000 a.tTrip)
               tReset := max 1 (min 600 a.tReset), tStep := max 1 (min 500 a.tStep)
               tStale := max 2 (min 500 a.tStale), nRc := a.nRc, nLt := a.nLt, w := a.w, k := a.k, iInst := a.iInst
               iRev := a.iRev, dIset := a.dIset, thetaAlarm := a.thetaAlarm, thetaTrip := a.thetaTrip, rT := a.rT
               rMin := a.rMin, vBf := a.vBf, policy := if a.policy = 0 then .hold else .trip }, clamped) ∧
        (clamped = true ↔
          ¬ (100 ≤ a.tDead ∧ a.tDead ≤ 60000 ∧ 20 ≤ a.tSettle ∧ a.tSettle ≤ 2000 ∧ 20 ≤ a.tClose ∧ a.tClose ≤ 1000 ∧
              20 ≤ a.tTrip ∧ a.tTrip ≤ 1000 ∧ 1 ≤ a.tReset ∧ a.tReset ≤ 600 ∧ 1 ≤ a.tStep ∧ a.tStep ≤ 500 ∧
              2 ≤ a.tStale ∧ a.tStale ≤ 500)))

/-- Each load taken in CONFIG on the works port writes its whole record into its slot and replies DONE; with a field out of its
range it is refused BAD_ARGUMENT; nothing else changes (R4, R6, R7, R8, R10, R11). -/
def Obligations.LoadsStoreWholeRecords : Prop :=
  ∀ (tag : Nat) (s : State), s.mode = .config → Roomy .works s →
    (∀ a : NetworkArgs, 1 ≤ a.busCount → a.busCount ≤ 4 → a.radioGroup ≤ 254 → a.leakage ≤ 1 →
      ∃ clamped,
        exec (.loadNetwork .works tag a) s =
          .next (let r : NetRecord :=
                   { busCount := a.busCount, tMatch := max 100 (min 10000 a.tMatch)
                     tSilence := max 5 (min 600 a.tSilence), tPoint := max 500 (min 10000 a.tPoint)
                     tHold := min 600 a.tHold, radioGroup := a.radioGroup
                     leakage := if a.leakage = 0 then .notify else .tripSection }
                 { s.answered .works tag .loadNetwork .done clamped .none with net := { s.net with network := some r } }) ∧
        (clamped = true ↔
          ¬ (100 ≤ a.tMatch ∧ a.tMatch ≤ 10000 ∧ 5 ≤ a.tSilence ∧ a.tSilence ≤ 600 ∧ 500 ≤ a.tPoint ∧
              a.tPoint ≤ 10000 ∧ a.tHold ≤ 600))) ∧
    (∀ sec, sec < 24 →
      exec (.loadSection .works tag sec) s =
        .next { s.answered .works tag .loadSection .done false .none with
          net := { s.net with sections := s.net.sections.setIfInBounds sec (some ()) } }) ∧
    (∀ (a : FeederArgs) (x : Settings) (clamped : Bool), readProtection a.protection = some (x, clamped) →
      a.feeder < 16 → a.sec < 24 → a.bus < 4 → a.currentCh < 48 → a.busCh < 48 → a.lineCh < 48 →
      exec (.loadFeeder .works tag a) s =
        .next { s.answered .works tag .loadFeeder .done clamped .none with
          net := { s.net with feeders := s.net.feeders.setIfInBounds a.feeder (some
            { sec := a.sec, bus := a.bus, currentCh := a.currentCh, busCh := a.busCh, lineCh := a.lineCh
              settings := x }) } }) ∧
    (∀ det sideA sideB, det < 48 → sideA < 24 ∨ sideA = 255 → sideB < 24 ∨ sideB = 255 →
      exec (.loadDetector .works tag det sideA sideB) s =
        .next { s.answered .works tag .loadDetector .done false .none with
          net := { s.net with detectors := s.net.detectors.setIfInBounds det (some
            { sideA := if sideA = 255 then none else some sideA
              sideB := if sideB = 255 then none else some sideB }) } }) ∧
    (∀ a : PointArgs, a.point < 16 → a.sec < 24 → a.entry < 48 → a.leftExit < 48 → a.rightExit < 48 → a.entryDir ≤ 1 →
      a.leftDir ≤ 1 → a.rightDir ≤ 1 →
      exec (.loadPoint .works tag a) s =
        .next { s.answered .works tag .loadPoint .done false .none with
          net := { s.net with points := s.net.points.setIfInBounds a.point (some
            { sec := a.sec, entry := a.entry, leftExit := a.leftExit, rightExit := a.rightExit
              entryDir := if a.entryDir = 0 then .ab else .ba, leftDir := if a.leftDir = 0 then .ab else .ba
              rightDir := if a.rightDir = 0 then .ab else .ba }) } }) ∧
    (∀ a : NetworkArgs, ¬ (1 ≤ a.busCount ∧ a.busCount ≤ 4 ∧ a.radioGroup ≤ 254 ∧ a.leakage ≤ 1) →
      exec (.loadNetwork .works tag a) s = .next (s.answered .works tag .loadNetwork .badArgument false .none)) ∧
    (∀ sec, 24 ≤ sec →
      exec (.loadSection .works tag sec) s = .next (s.answered .works tag .loadSection .badArgument false .none)) ∧
    (∀ a : FeederArgs,
      ¬ (ThresholdsFit a.protection ∧ a.feeder < 16 ∧ a.sec < 24 ∧ a.bus < 4 ∧ a.currentCh < 48 ∧ a.busCh < 48 ∧
          a.lineCh < 48) →
      exec (.loadFeeder .works tag a) s = .next (s.answered .works tag .loadFeeder .badArgument false .none)) ∧
    (∀ det sideA sideB, ¬ (det < 48 ∧ (sideA < 24 ∨ sideA = 255) ∧ (sideB < 24 ∨ sideB = 255)) →
      exec (.loadDetector .works tag det sideA sideB) s =
        .next (s.answered .works tag .loadDetector .badArgument false .none)) ∧
    ∀ a : PointArgs,
      ¬ (a.point < 16 ∧ a.sec < 24 ∧ a.entry < 48 ∧ a.leftExit < 48 ∧ a.rightExit < 48 ∧ a.entryDir ≤ 1 ∧ a.leftDir ≤ 1 ∧
          a.rightDir ≤ 1) →
      exec (.loadPoint .works tag a) s = .next (s.answered .works tag .loadPoint .badArgument false .none)

/-- START_RUN finds no failure exactly when the tables meet every check of R12. Where several fail, it finds the first by the
steps of R12's table, within a step the first in ascending item number, and within an item the first by the table, a channel in
the order current, bus-voltage, line-voltage. That a point's detectors are taken entry, left exit, right exit, a detector's side A
before its side B, and a repetition at its later mention, is the model's choice (log 40), and so is that a failure without an
item number or second object holds none in its place, and the count of step 4 as second object (log 19). -/
def Obligations.StartRunChecksAreThoseOfTheTable : Prop :=
  ∀ t : NetTables, (configFault t = none ↔
    ∃ net, t.network = some net ∧ (∃ sec, sec < 24 ∧ (look t.sections sec).isSome = true) ∧
      (∀ f r, look t.feeders f = some r →
        (look t.sections r.sec).isSome = true ∧ r.bus < net.busCount ∧ [r.currentCh, r.busCh, r.lineCh].Nodup ∧
          ∀ g q, g ≠ f → look t.feeders g = some q →
            ∀ ch ∈ [r.currentCh, r.busCh, r.lineCh], ch ∉ [q.currentCh, q.busCh, q.lineCh]) ∧
      (∀ sec, (look t.sections sec).isSome = true →
        1 ≤ ((List.range 16).filter fun f => (look t.feeders f).any fun r => decide (r.sec = sec)).length ∧
          ((List.range 16).filter fun f => (look t.feeders f).any fun r => decide (r.sec = sec)).length ≤ 2) ∧
      (∀ d r, look t.detectors d = some r →
        ¬ (r.sideA = none ∧ r.sideB = none) ∧
          (∀ sec, r.sideA = some sec ∨ r.sideB = some sec → (look t.sections sec).isSome = true)) ∧
      ∀ pt r, look t.points pt = some r →
        (look t.sections r.sec).isSome = true ∧ [r.entry, r.leftExit, r.rightExit].Nodup ∧
          (∀ d ∈ [r.entry, r.leftExit, r.rightExit],
            ∃ x, look t.detectors d = some x ∧ (x.sideA = some r.sec ∨ x.sideB = some r.sec)) ∧
          ∀ q z, q ≠ pt → look t.points q = some z →
            ∀ d ∈ [r.entry, r.leftExit, r.rightExit], d ∉ [z.entry, z.leftExit, z.rightExit]) ∧
    (t.network = none → configFault t = some ⟨.network, none, .notLoaded, none⟩) ∧
    ∀ net, t.network = some net →
      let lacks (sec : Nat) := look t.sections sec = none
      let feeder (f : Nat) (c : ConfigFault) : Prop := ∃ r, look t.feeders f = some r ∧
        let shared (before : List Nat) (ch : Nat) :=
          ch ∈ before ∨ ∃ g q, g < f ∧ look t.feeders g = some q ∧ ch ∈ [q.currentCh, q.busCh, q.lineCh]
        (lacks r.sec ∧ c = ⟨.feeder, some f, .noSuchSection, some r.sec⟩) ∨
          (¬ lacks r.sec ∧ net.busCount ≤ r.bus ∧ c = ⟨.feeder, some f, .noSuchBus, some r.bus⟩) ∨
          (¬ lacks r.sec ∧ r.bus < net.busCount ∧ ∃ ch, FirstOf [r.currentCh, r.busCh, r.lineCh] shared ch ∧
            c = ⟨.feeder, some f, .channelShared, some ch⟩)
      let sect (sec : Nat) (c : ConfigFault) : Prop := ¬ lacks sec ∧
        let n := ((List.range 16).filter fun f => (look t.feeders f).any fun r => decide (r.sec = sec)).length
        (n = 0 ∧ c = ⟨.sect, some sec, .noFeeder, some n⟩) ∨ (2 < n ∧ c = ⟨.sect, some sec, .tooManyFeeders, some n⟩)
      let detector (d : Nat) (c : ConfigFault) : Prop := ∃ r, look t.detectors d = some r ∧
        ((r.sideA = none ∧ r.sideB = none ∧ c = ⟨.detector, some d, .noSection, none⟩) ∨
          ∃ sec, FirstOf (r.sideA.toList ++ r.sideB.toList) (fun _ k => lacks k) sec ∧
            c = ⟨.detector, some d, .noSuchSection, some sec⟩)
      let point (pt : Nat) (c : ConfigFault) : Prop := ∃ r, look t.points pt = some r ∧
        let ds := [r.entry, r.leftExit, r.rightExit]
        let elsewhere (d : Nat) := ∀ x, look t.detectors d = some x → x.sideA ≠ some r.sec ∧ x.sideB ≠ some r.sec
        let used (before : List Nat) (d : Nat) :=
          d ∈ before ∨ ∃ q z, q < pt ∧ look t.points q = some z ∧ d ∈ [z.entry, z.leftExit, z.rightExit]
        (lacks r.sec ∧ c = ⟨.point, some pt, .noSuchSection, some r.sec⟩) ∨
          (¬ lacks r.sec ∧
            ((∃ d, FirstOf ds (fun _ k => look t.detectors k = none) d ∧
                c = ⟨.point, some pt, .noSuchDetector, some d⟩) ∨
              ((∀ d ∈ ds, look t.detectors d ≠ none) ∧
                ((∃ d, FirstOf ds (fun _ k => elsewhere k) d ∧ c = ⟨.point, some pt, .notOnBoundary, some d⟩) ∨
                  ((∀ d ∈ ds, ¬ elsewhere d) ∧
                    ∃ d, FirstOf ds used d ∧ c = ⟨.point, some pt, .detectorReused, some d⟩)))))
      let found (fault : Nat → ConfigFault → Prop) : Prop :=
        ∀ n c, fault n c → (∀ k d, k < n → ¬ fault k d) → configFault t = some c
      ((∀ sec, lacks sec) → configFault t = some ⟨.network, none, .noSections, none⟩) ∧
      (¬ (∀ sec, lacks sec) →
        found feeder ∧
        ((∀ f c, ¬ feeder f c) → found sect ∧
          ((∀ sec c, ¬ sect sec c) → found detector ∧ ((∀ d c, ¬ detector d c) → found point))))

/-- The derived lists of tables that pass every check are those of R13. -/
def Obligations.DerivedListsAreThoseOfTheTables : Prop :=
  ∀ t : NetTables, configFault t = none →
    (∀ sec, sec < 24 → ∃ fs, (derive t).feedersOf[sec]? = some fs ∧ fs.Pairwise (· < ·) ∧
      ∀ f, f ∈ fs ↔ ∃ r, look t.feeders f = some r ∧ r.sec = sec) ∧
    (∀ f g, (derive t).partner[f]? = some (some g) ↔
      g ≠ f ∧ ∃ r q, look t.feeders f = some r ∧ look t.feeders g = some q ∧ r.sec = q.sec) ∧
    (∀ bus, bus < 4 → ∃ fs, (derive t).busFeeders[bus]? = some fs ∧ fs.Pairwise (· < ·) ∧
      ∀ f, f ∈ fs ↔ ∃ r, look t.feeders f = some r ∧ r.bus = bus) ∧
    (∀ sec, sec < 24 → ∃ ds, (derive t).boundary[sec]? = some ds ∧ ds.Pairwise (· < ·) ∧
      ∀ d, d ∈ ds ↔ ∃ r, look t.detectors d = some r ∧ (r.sideA = some sec ∨ r.sideB = some sec)) ∧
    (∀ sec, sec < 24 → ∃ ps, (derive t).pointsOf[sec]? = some ps ∧ ps.Pairwise (· < ·) ∧
      ∀ pt, pt ∈ ps ↔ ∃ r, look t.points pt = some r ∧ r.sec = sec) ∧
    ∀ d pt role, look (derive t).roles d = some (pt, role) ↔
      ∃ r, look t.points pt = some r ∧
        match role with
        | .entry => r.entry = d
        | .leftExit => r.leftExit = d
        | .rightExit => r.rightExit = d

/-- A START_RUN whose checks pass brings every block into RUN with the first states of R14, and replies DONE: a feeder as R43, R64
and R104 list it, a section as R90, a point as R108, its link record as R129; one whose checks fail replies BAD_CONFIG with the
failure found and changes nothing else (R12, R14). That the bit sent of the link record is 0 is the model's choice (log 44). -/
def Obligations.StartRunGivesTheFirstStates : Prop :=
  ∀ (tag : Nat) (s : State), s.mode = .config → Roomy .works s →
    (∀ c, configFault s.net = some c →
      exec (.startRun .works tag) s =
        .next (s.answered .works tag .startRun .badConfig false (.badConfig c.item c.number c.reason c.other))) ∧
    (configFault s.net = none →
      ∃ t, exec (.startRun .works tag) s = .next t ∧
        t = { s.answered .works tag .startRun .done false .none with
              mode := .run, derived := derive s.net, blocks := t.blocks } ∧
        t.blocks =
          { (s.answered .works tag .startRun .done false .none).blocks with
            feeders := t.blocks.feeders, sections := t.blocks.sections, points := t.blocks.points
            dlc := { s.blocks.dlc with queue := (List.range 16).filter fun pt => (look s.net.points pt).isSome }
            sq := { s.blocks.sq with latest := Vector.replicate 48 none } } ∧
        (∀ f, t.blocks.feeder? f =
          (look s.net.feeders f).map fun r =>
            { conn := r, state := if s.env.aux f = .closed then .closed else .opened, cause := none, attempts := 0
              role := .none, openPending := false, closeOntoFault := false, backfed := 0, stateTimer := none
              resetTimer := none, lastTest := none, tripCoil := false, closeCoil := false, testContactor := false
              pu := { offset := 0, ring := [], step := none, theta := 0, alarmArmed := true, invalidRun := 0
                      stale := none, degradeArmed := true }
              liveArmed := true }) ∧
        (∀ sec, t.blocks.section? sec =
          (look s.net.sections sec).map fun _ =>
            { state :=
                if (List.range 16).any fun f =>
                    (look s.net.feeders f).any (fun r => decide (r.sec = sec)) && decide (s.env.aux f = .closed)
                then .energised else .dead
              lowVoltage := false, occupancy := 0, inhibit := 0, permits := 0, leader := none }) ∧
        ∀ pt, t.blocks.point? pt =
          (look s.net.points pt).map fun r =>
            { frame := r, drive := .idle, target := none, count := 0, countFault := false, blocked := false
              worksHeld := false, failed := false, queue := [], seqBit := false, attempt := 0, lastResult := none
              hold := none, link := ⟨.resync, .resyncPending, 0, false, none, none⟩ })

/-- RESTART is refused HELD while a permit stands; otherwise it empties every table and block, keeps line time, inputs and
the commands that wait, and leaves its reply alone in the works queue and a RESTARTED notice alone in each of the two
others. The power-on reset leaves the part as reset finds it, at line time 0 with nothing queued, but for the commands that
wait and the inputs, which stay as they are reported; a detector contact that is closed stays closed (R15 to R17, R195).
What the power-on reset does to the closed detector contacts, and the inputs at reset, are the model's choice (logs 1 and
29). -/
def Obligations.ResetsReturnToConfig : Prop :=
  (∀ (tag : Nat) (s : State), Roomy .works s →
    (s.blocks.permits ≠ [] →
      exec (.restart .works tag) s = .next (s.answered .works tag .restart .held false .none)) ∧
    (s.blocks.permits = [] →
      exec (.restart .works tag) s =
        .next { s with
          mode := .config, net := NetTables.empty, derived := Derived.empty
          blocks := { Blocks.initial s.time with po :=
            { dispatch := { PortState.initial with queue := [.notice ⟨s.time, .restarted⟩] }
              traffic := { PortState.initial with queue := [.notice ⟨s.time, .restarted⟩] }
              works :=
                { PortState.initial with
                  queue := [.reply ⟨tag, 32, .done, false, .none⟩], status := some .taken } } } })) ∧
  ∀ s : State, ∃ t, exec .powerOnReset s = .next t ∧
    t = { State.reset with pending := s.pending, pins := t.pins } ∧
    t.pins = { s.pins with detA := t.pins.detA, detB := t.pins.detB } ∧
    ∀ d, (look t.pins.detA d).isSome = (look s.pins.detA d).isSome ∧
      (look t.pins.detB d).isSome = (look s.pins.detB d).isSome

/-- A tick advances line time by one, modulo 2^32; the rests of the converter link and the drive link after a reset and the
gap after a transmission end once line time has covered them; where none of the three runs, nothing else changes (R16, R18,
R168). That timers do not fire at a tick by themselves, and that the rests and the gap end there, is the model's choice
(logs 6 and 32). -/
def Obligations.TickAdvancesLineTime : Prop :=
  ∀ s : State,
    (s.blocks.clc.rest = none → s.blocks.dlc.rest = none → s.blocks.rlc.gapAfterSend = none →
      exec .lineTimeTick s = .next { s with time := s.time + 1 }) ∧
    ∃ t, exec .lineTimeTick s = .next t ∧ t = { s with time := s.time + 1, blocks := t.blocks } ∧
      t.blocks.po = s.blocks.po ∧ t.blocks.feeders = s.blocks.feeders ∧ t.blocks.sections = s.blocks.sections ∧
      t.blocks.points = s.blocks.points ∧ t.blocks.permits = s.blocks.permits ∧ t.blocks.vt = s.blocks.vt ∧
      t.blocks.passes = s.blocks.passes ∧ t.blocks.mq = s.blocks.mq ∧
      (∀ x, s.blocks.clc.rest = some x → x.setting ≤ (s.time + 1 - x.start).toNat → t.blocks.clc.rest = none) ∧
      (∀ x, s.blocks.clc.rest = some x → (s.time + 1 - x.start).toNat < x.setting → t.blocks.clc = s.blocks.clc) ∧
      (∀ x, s.blocks.dlc.rest = some x →
        t.blocks.dlc =
          { s.blocks.dlc with rest := if x.setting ≤ (s.time + 1 - x.start).toNat then none else some x }) ∧
      ∀ x, s.blocks.rlc.gapAfterSend = some x →
        t.blocks.rlc =
          { s.blocks.rlc with gapAfterSend := if x.setting ≤ (s.time + 1 - x.start).toNat then none else some x }

/-! ## Ports -/

/-- A read frame clocks the head out and removes it once its status byte has been clocked; on an empty queue it ends EMPTY
and changes no entry. In PULSE mode a completed read leaves the gap where an attention entry remains, and the line inactive
otherwise; the gap ends in a pulse while one remains, and a pulse ends. A framing error discards the frame in progress: no
entry leaves, but that a newer notice of the kind and subject of a head that was being read takes the head's place (R180,
R185, R187, R192, R197). That a read is a beginning and a completion, and what either does out of turn, is the model's
choice (log 3). -/
def Obligations.ReadFramesDeliverTheHead : Prop :=
  ∀ (p : Port) (s : State),
    ((s.port p).reading = .none →
      ((s.port p).queue = [] →
        exec (.readFrame p .begins) s = .next (s.setPort p { s.port p with reading := .empty, out := [0, 0] }) ∧
        exec (.readFrame p .completes) s = .next (s.setPort p { s.port p with out := [0, 0], status := some .empty })) ∧
      ∀ e q, (s.port p).queue = e :: q →
        exec (.readFrame p .begins) s =
          .next (s.setPort p { s.port p with reading := .head, out := e.bytes (s.port p).routing })) ∧
    ((s.port p).reading ≠ .none → exec (.readFrame p .begins) s = .next s) ∧
    ((s.port p).reading = .empty →
      exec (.readFrame p .completes) s = .next (s.setPort p { s.port p with reading := .none, status := some .empty })) ∧
    (∀ e q, (s.port p).queue = e :: q → (s.port p).reading ≠ .empty →
      exec (.readFrame p .completes) s =
        .next (s.setPort p { s.port p with
          reading := .none, status := some .entry, queue := q
          out := if (s.port p).reading = .none then e.bytes (s.port p).routing else (s.port p).out
          pulse :=
            if (s.port p).lineMode = .level then (s.port p).pulse
            else if q.any (isAttention (s.port p).routing) then .gap
            else .inactive })) ∧
    ((s.port p).pulse = .gap →
      exec (.attentionGapEnd p) s =
        .next (s.setPort p { s.port p with
          pulse := if (s.port p).queue.any (isAttention (s.port p).routing) then .pulsing else .inactive })) ∧
    ((s.port p).pulse ≠ .gap → exec (.attentionGapEnd p) s = .next s) ∧
    ((s.port p).pulse = .pulsing →
      exec (.attentionPulseEnd p) s = .next (s.setPort p { s.port p with pulse := .inactive })) ∧
    ((s.port p).pulse ≠ .pulsing → exec (.attentionPulseEnd p) s = .next s) ∧
    ((s.port p).reading ≠ .head → exec (.framingError p) s = .next (s.setPort p { s.port p with reading := .none })) ∧
    ∀ e q, (s.port p).reading = .head → (s.port p).queue = e :: q →
      ((∀ m n, e = .notice m → .notice n ∈ q → ¬ SameSubject n m) →
        exec (.framingError p) s = .next (s.setPort p { s.port p with reading := .none })) ∧
      ∀ m a n b, e = .notice m → q = a ++ .notice n :: b → SameSubject n m → (∀ k, .notice k ∈ a → ¬ SameSubject k m) →
        exec (.framingError p) s =
          .next (s.setPort p { s.port p with reading := .none, queue := .notice n :: (a ++ b) })

/-- The reply to READ_VEHICLE of 0 carries as many of its vehicles, from the first, as an entry of 1024 bytes holds, then as many
of its passes, and closes with MORE, 0 when both lists are whole and 1 when one was cut; its entry begins with its own length and
closes with its check word (R197, R198). The layout of an item, and that the vehicles come before the passes where both cannot
stay, is the model's choice (log 19). -/
def Obligations.VehicleListIsCutToFit : Prop :=
  ∀ (tag kind : Nat) (clamped : Bool) (code : ReplyCode) (vs : List VehicleLine) (ps : List PassEntry) (r : Routing),
    ∃ fields, (Entry.reply ⟨tag, kind, code, clamped, .vehicles vs ps⟩).bytes r = withCheck fields ∧
      fields.length + 2 ≤ 1024 ∧
      ∃ vs' ps', vs' <+: vs ∧ ps' <+: ps ∧
        (let lists (us : List VehicleLine) (qs : List PassEntry) : List Byte :=
           BitVec.ofNat 8 us.length :: us.flatMap bVehicleLine ++ BitVec.ofNat 8 qs.length :: qs.flatMap bPass
         (∃ header, header.length = 7 ∧ fields = header ++ lists vs' ps' ++ [if vs' = vs ∧ ps' = ps then 0 else 1] ∧
           header.take 2 = [BitVec.ofNat 8 ((fields.length + 2) / 256), BitVec.ofNat 8 (fields.length + 2)]) ∧
         (∀ v more, vs = vs' ++ v :: more → 1024 < 7 + (lists (vs' ++ [v]) []).length + 3) ∧
         (∀ q more, ps = ps' ++ q :: more → 1024 < 7 + (lists vs' (ps' ++ [q])).length + 3))

/-- SET_MASK replaces the port's masks by the set it carries, and is refused BAD_ARGUMENT where it names a kind that the port
does not receive or that cannot be masked (R189). SET_LINE_MODE sets mode, gap and routing before its reply is placed; leaving
or entering PULSE ends a gap and a pulse (R194). -/
def Obligations.PortSettingsAreReplaced : Prop :=
  ∀ (p : Port) (tag : Nat) (s : State), Roomy p s →
    (∀ kinds : List Nat,
      ((∀ c ∈ kinds, ∃ k, 1 ≤ c ∧ NoticeKind.all[c - 1]? = some k ∧ p ∈ k.ports ∧ k.maskable = true) →
        ∃ ms, exec (.setMask p tag kinds) s =
            .next ((s.answered p tag .setMask .done false .none).amendPort p fun ps => { ps with masks := ms }) ∧
          ∀ k, k ∈ ms ↔ ∃ c ∈ kinds, 1 ≤ c ∧ NoticeKind.all[c - 1]? = some k) ∧
      (¬ (∀ c ∈ kinds, ∃ k, 1 ≤ c ∧ NoticeKind.all[c - 1]? = some k ∧ p ∈ k.ports ∧ k.maskable = true) →
        exec (.setMask p tag kinds) s = .next (s.answered p tag .setMask .badArgument false .none))) ∧
    ∀ mode gap routing : Nat,
      (mode ≤ 1 → gap ≤ 3 → routing ≤ 1 →
        exec (.setLineMode p tag mode gap routing) s =
          .next ((s.setPort p { s.port p with
            lineMode := if mode = 0 then .level else .pulse
            gap := if gap = 0 then .us10 else if gap = 1 then .us5 else if gap = 2 then .us2half else .us1quarter
            routing := if routing = 0 then .own else .shared
            pulse := if mode = 1 ∧ (s.port p).lineMode = .pulse then (s.port p).pulse else .inactive }).answered
              p tag .setLineMode .done false .none)) ∧
      (¬ (mode ≤ 1 ∧ gap ≤ 3 ∧ routing ≤ 1) →
        exec (.setLineMode p tag mode gap routing) s =
          .next (s.answered p tag .setLineMode .badArgument false .none))

/-- READ_STATUS reports its port and the device as they stand, counting its own reply among the entries; then the lost flag
and the summaries are clear, and on the traffic port the radio link's overrun, overrun count and transmit overflow (R179,
R188, R190, R191). -/
def Obligations.ReadStatusReportsAndClears : Prop :=
  ∀ (p : Port) (tag : Nat) (s : State), Roomy p s →
    ∃ t r, exec (.readStatus p tag) s = .next t ∧ t = { s with blocks := t.blocks } ∧
      t.blocks = { s.blocks with po := t.blocks.po, rlc := t.blocks.rlc } ∧
      (∀ q, q ≠ p → t.port q = s.port q) ∧
      t.port p =
        { (s.answered p tag .readStatus .done false (.status r)).port p with noticeLost := false, summaries := [] } ∧
      (p ≠ .traffic → t.blocks.rlc = s.blocks.rlc) ∧
      (p = .traffic →
        t.blocks.rlc = { s.blocks.rlc with overrun := false, overrunCount := 0, txOverflow := false }) ∧
      r.mode = s.mode ∧ r.time = s.time ∧ r.entries = (s.port p).queue.length + 1 ∧
      r.notices = ((s.port p).queue.filter Entry.isNotice).length ∧ r.noticeLost = (s.port p).noticeLost ∧
      r.summaries = (s.port p).summaries ∧ r.masks = (s.port p).masks ∧ r.lineMode = (s.port p).lineMode ∧
      r.gap = (s.port p).gap ∧ r.routing = (s.port p).routing ∧
      (r.urgent = true ↔
        ∃ q n, (s.port q).routing = .shared ∧ .notice n ∈ (s.port q).queue ∧ n.body.urgent = true) ∧
      r.part =
        (match p with
         | .dispatch =>
           .dispatch s.blocks.clc.presence.toList s.blocks.sq.mode s.blocks.sq.next s.blocks.sq.stopPending
             s.blocks.sq.cycles s.blocks.rlc.allStop s.blocks.rlc.txAck
         | .traffic =>
           .traffic s.blocks.dlc.queue.length (s.blocks.dlc.link.map fun x => x.point)
             ⟨s.blocks.rlc.rxEnable, s.blocks.rlc.txEnable, s.blocks.rlc.rxAck, s.blocks.rlc.txAck,
              s.blocks.rlc.rxQueue.length, s.blocks.rlc.txQueue.length, s.blocks.rlc.sending.isSome,
              s.blocks.rlc.allStop, s.blocks.rlc.badRun, s.blocks.rlc.degradedArmed, s.blocks.rlc.overrun,
              s.blocks.rlc.overrunCount, s.blocks.rlc.txOverflow⟩
         | .works => .works s.blocks.permits.length)

/-- A notice is placed on each of its ports by the first case that holds there: masked, with its summary set; written over
the unread notice of its kind and subject; appended while the queue holds fewer than 28 notices and 32 entries, with a pulse
where it is the only attention entry of a PULSE line outside the gap after a read; or lost, with NOTICE_LOST set (R186 to
R190, R192). -/
def Obligations.NoticesArePlacedPortByPort : Prop :=
  (∀ (e : Env) (n : NoticeBody) (b : Blocks) (p : Port),
    (say e n b).po.port p = if p ∈ n.kind.ports then (b.po.port p).place ⟨e.time, n⟩ else b.po.port p) ∧
  ∀ (n : Notice) (ps : PortState),
    (n.body.kind ∈ ps.masks ∧ n.body.urgent = false →
      ∃ ks, ps.place n = { ps with summaries := ks } ∧ ∀ k, k ∈ ks ↔ k = n.body.kind ∨ k ∈ ps.summaries) ∧
    (¬ (n.body.kind ∈ ps.masks ∧ n.body.urgent = false) →
      (∀ a m b, ps.queue = a ++ .notice m :: b → (ps.reading = .head → a ≠ []) → SameSubject m n →
        (∀ k, .notice k ∈ (if ps.reading = .head then a.tail else a) → ¬ SameSubject k n) →
        ps.place n = { ps with queue := a ++ .notice n :: b }) ∧
      ((∀ m, .notice m ∈ ps.replaceable → ¬ SameSubject m n) →
        ((ps.queue.filter Entry.isNotice).length < 28 ∧ ps.queue.length < 32 →
          ps.place n =
            { ps with
              queue := ps.queue ++ [.notice n]
              pulse :=
                if ps.lineMode = .pulse ∧ ps.queue.any (isAttention ps.routing) = false ∧ ps.pulse ≠ .gap ∧
                    ¬ (n.body.urgent = true ∧ ps.routing = .shared) then .pulsing
                else ps.pulse }) ∧
        (¬ ((ps.queue.filter Entry.isNotice).length < 28 ∧ ps.queue.length < 32) →
          ps.place n = { ps with noticeLost := true })))

/-! ## Measurement scanning -/

/-- START_SCAN, RESUME_SCAN and STOP_SCAN by the sequencer's state: the entry at the pointer begins at once, or the walk
stands between entries while an insert is served; a stop in an entry pends, and elsewhere is at once. When the settle delay of
the entry at the pointer has run out, its conversion is asked for, as soon as the link is free; before that the expiry changes
nothing (R19, R23, R24, R27, R28). That an expiry before its time has no effect, and that a stop between entries is at once
whatever runs on the converter link, is the model's choice (logs 4 and 42). -/
def Obligations.ScanRequestsMoveTheSequencer : Prop :=
  ∀ (tag : Nat) (s : State), s.mode = .run → Roomy .dispatch s →
    let q := s.blocks.sq
    let running := q.mode = .settle ∨ q.mode = .converting ∨ q.mode = .between
    let begun (k : ReqKind) (b : Blocks) (t : State) : Prop :=
      t = { s.answered .dispatch tag k .done false .none with blocks := t.blocks } ∧
        (q.serving = true → t.blocks = { b with sq := { b.sq with mode := .between } }) ∧
        (q.serving = false → ∀ x, look b.sq.slots b.sq.next = some x → t.blocks = entryBegun s.time x b)
    (running → exec (.startScan .dispatch tag) s = .next (s.answered .dispatch tag .startScan .busy false .none)) ∧
    (q.mode = .paused →
      exec (.startScan .dispatch tag) s = .next (s.answered .dispatch tag .startScan .wrongState false .none)) ∧
    (q.mode = .stopped → q.length = 0 →
      exec (.startScan .dispatch tag) s = .next (s.answered .dispatch tag .startScan .badArgument false .none)) ∧
    (q.mode = .stopped → 0 < q.length → ∃ t, exec (.startScan .dispatch tag) s = .next t ∧
      begun .startScan { (s.answered .dispatch tag .startScan .done false .none).blocks with sq := { q with next := 0 } } t) ∧
    (q.mode = .paused → ∃ t, exec (.resumeScan .dispatch tag) s = .next t ∧
      begun .resumeScan (s.answered .dispatch tag .resumeScan .done false .none).blocks t) ∧
    (q.mode ≠ .paused →
      exec (.resumeScan .dispatch tag) s = .next (s.answered .dispatch tag .resumeScan .wrongState false .none)) ∧
    (q.mode = .settle ∨ q.mode = .converting →
      exec (.stopScan .dispatch tag) s =
        .next ((s.answered .dispatch tag .stopScan .accepted false .none).onBlocks fun _ b =>
          { b with sq := { b.sq with stopPending := true } })) ∧
    (q.mode = .between ∨ q.mode = .paused ∨ q.mode = .stopped →
      exec (.stopScan .dispatch tag) s =
        .next ((s.answered .dispatch tag .stopScan .done false .none).onBlocks fun _ b =>
          { b with sq := { b.sq with mode := .stopped } })) ∧
    (¬ (q.mode = .settle ∧ ∃ x, q.settle = some x ∧ x.setting ≤ (s.time - x.start).toNat) →
      exec .scanSettleExpiry s = .next s) ∧
    ∀ x en, q.mode = .settle → q.settle = some x → x.setting ≤ (s.time - x.start).toNat →
      look q.slots q.next = some en →
      (LinkFree s.blocks →
        exec .scanSettleExpiry s = .next (s.onBlocks fun e b =>
          { b with
            sq := { b.sq with mode := .converting, settle := none }
            clc := { b.clc with inFlight := some (requested e.time en.channel .walk) } })) ∧
      (¬ LinkFree s.blocks →
        exec .scanSettleExpiry s = .next (s.onBlocks fun _ b => { b with sq := { b.sq with settle := none } }))

/-- WRITE_SCAN is refused BUSY while the sequencer is RUNNING, then BAD_ARGUMENT by every check of R22, then NO_SUCH. Taken,
it writes the entries INSIDE and the length, leaves no entry CROSSED at or above it, clears LOW_VOLTAGE of a section whose
monitor it makes INSIDE, and in PAUSED mends pointer and state (R21, R22). The order of BUSY before BAD_ARGUMENT, the order of
the arguments, and that a record or pause flag above 1 is out of its range, are the model's choice (logs 20, 21 and 23). -/
def Obligations.WriteScanWritesTheList : Prop :=
  ∀ (tag : Nat) (entries : List ScanArgs) (first len : Nat) (s : State), s.mode = .run → Roomy .dispatch s →
    let q := s.blocks.sq
    let slot (i : Nat) : Option ScanEntry :=
      if first ≤ i then
        match entries[i - first]? with
        | some a => some (entryOf a)
        | none => look q.slots i
      else look q.slots i
    let fits := first + entries.length ≤ 48 ∧ entries.length ≤ 8 ∧ len ≤ 48 ∧
      (∀ a ∈ entries, ScanFits (isCurrent s.blocks a.channel) a) ∧ (∀ i, i < len → (slot i).isSome = true) ∧
      ∀ i j x y sec, i < j → j < len → slot i = some x → slot j = some y → x.binding = some sec → y.binding ≠ some sec
    let known := ∀ a ∈ entries, a.binding ≠ 255 → (s.blocks.section? a.binding).isSome = true
    let inside (i : Nat) : Option ScanEntry :=
      if len ≤ i then (slot i).map fun x => { x with crossing := none } else slot i
    (q.mode = .settle ∨ q.mode = .converting ∨ q.mode = .between →
      exec (.writeScan .dispatch tag entries first len) s =
        .next (s.answered .dispatch tag .writeScan .busy false .none)) ∧
    (q.mode = .stopped ∨ q.mode = .paused →
      (¬ fits → exec (.writeScan .dispatch tag entries first len) s =
        .next (s.answered .dispatch tag .writeScan .badArgument false .none)) ∧
      (fits → ¬ known → exec (.writeScan .dispatch tag entries first len) s =
        .next (s.answered .dispatch tag .writeScan .noSuch false .none)) ∧
      (fits → known →
        ∃ t, exec (.writeScan .dispatch tag entries first len) s = .next t ∧ OnlyBlocks s t ∧
          PointEvents
            { (s.answered .dispatch tag .writeScan .done false .none).blocks with
              sq := t.blocks.sq, sections := t.blocks.sections } t.blocks ∧
          (∀ i, i < 48 → look t.blocks.sq.slots i = inside i) ∧
          t.blocks.sq =
            { q with
              slots := t.blocks.sq.slots, length := len
              next := if q.mode = .paused ∧ len ≤ q.next then 0 else q.next
              mode := if q.mode = .paused ∧ len = 0 then .stopped else q.mode } ∧
          ∀ sec z, s.blocks.section? sec = some z →
            ((∃ i x, look q.slots i = some x ∧ x.crossing ≠ none ∧ x.binding = some sec ∧
                ∀ y, inside i = some y → y.crossing = none) →
              t.blocks.section? sec = some { z with lowVoltage := false }) ∧
            (¬ (∃ i x, look q.slots i = some x ∧ x.crossing ≠ none ∧ x.binding = some sec ∧
                ∀ y, inside i = some y → y.crossing = none) →
              t.blocks.section? sec = some z)))

/-- SET_MQ_THRESHOLD sets the threshold and the arming flag by it, and announces a count that has reached it while the flag
was set; READ_MEASUREMENTS takes up to eight records from the head, reports MORE and the overflow flag, clears that flag, and
sets the arming flag when fewer than the threshold are left; where its reply finds no room nothing is removed (R38, R39). -/
def Obligations.MeasurementRequestsServeTheQueue : Prop :=
  ∀ (tag n : Nat) (s : State), s.mode = .run →
    let m := s.blocks.mq
    (¬ Roomy .dispatch s →
      exec (.readMeasurements .dispatch tag n) s =
        .next (s.setPort .dispatch { s.port .dispatch with status := some .queueFull })) ∧
    (Roomy .dispatch s → n = 0 ∨ 64 < n →
      exec (.setMqThreshold .dispatch tag n) s =
        .next (s.answered .dispatch tag .setMqThreshold .badArgument false .none)) ∧
    (Roomy .dispatch s → 1 ≤ n → n ≤ 64 →
      exec (.setMqThreshold .dispatch tag n) s =
        .next ((s.answered .dispatch tag .setMqThreshold .done false .none).onBlocks fun e b =>
          let c : Blocks := { b with mq := { m with threshold := n, armed := decide (m.records.length < n) } }
          if m.armed = true ∧ n ≤ m.records.length then say e (.measReady m.records.length) c else c)) ∧
    (Roomy .dispatch s → n = 0 ∨ 8 < n →
      exec (.readMeasurements .dispatch tag n) s =
        .next (s.answered .dispatch tag .readMeasurements .badArgument false .none)) ∧
    (Roomy .dispatch s → 1 ≤ n → n ≤ 8 →
      exec (.readMeasurements .dispatch tag n) s =
        .next ((s.answered .dispatch tag .readMeasurements .done false
            (.measurements (m.records.take n) (decide (n < m.records.length)) m.overflow)).onBlocks fun _ b =>
          { b with mq :=
            { m with
              records := m.records.drop n, overflow := false
              armed := m.armed || decide (m.records.length - n < m.threshold) } }))

/-- CALIBRATE is refused BAD_ARGUMENT, LIVE, BUSY or FULL, in that order; taken, it appends an insert of eight conversions,
which begin at once in STOPPED and PAUSED where the queue was empty and the link is free (R29, R30, R35). -/
def Obligations.CalibrateAppendsAnInsert : Prop :=
  ∀ (tag ch : Nat) (s : State), s.mode = .run → Roomy .dispatch s →
    let q := s.blocks.sq
    ((48 ≤ ch ∨ ∀ f x, s.blocks.feeder? f = some x → x.conn.currentCh ≠ ch) →
      exec (.calibrate .dispatch tag ch) s = .next (s.answered .dispatch tag .calibrate .badArgument false .none)) ∧
    ∀ f x, ch < 48 → s.blocks.feeder? f = some x → x.conn.currentCh = ch →
      (∀ g y, s.blocks.feeder? g = some y → y.conn.currentCh = ch → g = f) →
      let live := x.state = .closing ∨ x.state = .closed ∨ x.state = .lineTest .test
      let queued := ∃ i ∈ q.inserts, i.kind = .calibrate ∧ i.who = ch
      let first := q.inserts = [] ∧ (q.mode = .stopped ∨ q.mode = .paused)
      (live → exec (.calibrate .dispatch tag ch) s =
        .next (s.answered .dispatch tag .calibrate .live false .none)) ∧
      (¬ live → queued → exec (.calibrate .dispatch tag ch) s =
        .next (s.answered .dispatch tag .calibrate .busy false .none)) ∧
      (¬ live → ¬ queued → 4 ≤ q.inserts.length → exec (.calibrate .dispatch tag ch) s =
        .next (s.answered .dispatch tag .calibrate .full false .none)) ∧
      (¬ live → ¬ queued → q.inserts.length < 4 →
        ∃ t, exec (.calibrate .dispatch tag ch) s = .next t ∧
          t = ((s.answered .dispatch tag .calibrate .accepted false .none).onBlocks fun _ b =>
            { b with sq := t.blocks.sq, clc := t.blocks.clc }) ∧
          (first →
            t.blocks.sq = { q with inserts := [⟨.calibrate, ch, 8, []⟩], serving := true } ∧
              (LinkFree s.blocks →
                t.blocks.clc = { s.blocks.clc with inFlight := some (requested s.time ch .insert) }) ∧
              (¬ LinkFree s.blocks → t.blocks.clc = s.blocks.clc)) ∧
          (¬ first →
            t.blocks.sq = { q with inserts := q.inserts ++ [⟨.calibrate, ch, 8, []⟩] } ∧ t.blocks.clc = s.blocks.clc))

/-- A converter transaction ends by a correct answer that names its channel, or by its 2 ms expiry; every other answer, a late
one among them, and an expiry before its time change nothing. VALID makes the converter PRESENT, an expiry makes it FAILED.
The end of a walk entry writes the latest value, the record it asks for, the pointer and the cycle count, stops or pauses the
walk, and begins the insert at the head of the queue, or else the next entry (R19, R20, R24 to R26, R30, R37, R38, R40). The
result of a conversion whose insert was withdrawn is discarded, and SQ carries on where it stood (R31). A sample of a
line-voltage channel spends or sets the live-on-isolated arming of its feeder in an ISOLATED section, with LIVE_ON_ISOLATED
where it spends it, and leaves the feeder otherwise (R104). That an expiry before its time has no effect, and that the command
says which answer is late, is the model's choice (logs 4 and 39). -/
def Obligations.ConversionsEndByAnswerOrExpiry : Prop :=
  ∀ s : State, s.mode = .run →
    (∀ bytes, exec (.converterAnswer ⟨true, bytes⟩) s = .next s) ∧
    (s.blocks.clc.inFlight = none → (∀ a, exec (.converterAnswer a) s = .next s) ∧
      exec .converterAnswerExpiry s = .next s) ∧
    ∀ tr, s.blocks.clc.inFlight = some tr →
      ((s.time - tr.expiry.start).toNat < tr.expiry.setting → exec .converterAnswerExpiry s = .next s) ∧
      (∀ bytes, (¬ ∃ code valid, CorrectAnswer bytes tr.channel code valid) → tr.channel < 256 →
        exec (.converterAnswer ⟨false, bytes⟩) s = .next s) ∧
      (∀ c code valid presence, tr.owner = .discarded → tr.channel < 48 → ConversionEnds s tr c code valid presence →
        let q := s.blocks.sq
        ∃ t po, exec c s = .next t ∧ OnlyBlocks s t ∧ Notified s.blocks.po po ∧
          let b : Blocks :=
            { s.blocks with clc := { s.blocks.clc with inFlight := none, presence := presence }, po := po }
          (¬ LinkFree b → t.blocks = b) ∧
          (LinkFree b → q.mode = .settle → q.settle ≠ none → t.blocks = b) ∧
          (LinkFree b → q.mode = .settle → q.settle = none → ∀ en, look q.slots q.next = some en →
            t.blocks =
              { b with
                sq := { q with mode := .converting }
                clc := { b.clc with inFlight := some (requested s.time en.channel .walk) } }) ∧
          (LinkFree b → q.mode = .between → q.serving = false → ∀ en, look q.slots q.next = some en →
            t.blocks = entryBegun s.time en b) ∧
          (LinkFree b → q.mode = .stopped ∨ q.mode = .paused ∨ (q.mode = .between ∧ q.serving = true) →
            ServesHead s.time b t.blocks)) ∧
      ∀ en c code valid presence, Walking s tr en → ConversionEnds s tr c code valid presence →
        let v := sampleAt s.blocks tr.channel valid code
        ∃ t, exec c s = .next t ∧ OnlyBlocks s t ∧ WalkDone s en v presence t.blocks ∧
          ∀ f x z, s.blocks.feeder? f = some x → x.conn.lineCh = tr.channel → s.blocks.section? x.conn.sec = some z →
            (∀ g y, s.blocks.feeder? g = some y → y.conn.currentCh ≠ tr.channel ∧ (y.conn.lineCh = tr.channel → g = f)) →
            let judged := z.state = .isolated ∧ v.cls = .normal
            (judged → x.conn.settings.vBf ≤ v.value →
              t.blocks.feeder? f = some { x with liveArmed := false } ∧
                (x.liveArmed = true → NotifiedOf
                  ⟨s.time, .liveOnIsolated x.conn.sec f tr.channel v.value x.state (s.env.aux f)⟩ s.blocks.po t.blocks.po)) ∧
            (judged → v.value < x.conn.settings.vBf → t.blocks.feeder? f = some { x with liveArmed := true }) ∧
            (¬ judged → t.blocks.feeder? f = some x)

/-- A result of the insert in service, by an answer or by the 2 ms expiry, is kept with it, classified as it arrives and with its
raw code, and the next conversion of the insert's table is asked for in the same event (R19, R20, R29, R30, R36, R42). -/
def Obligations.InsertResultsAreKept : Prop :=
  ∀ (s : State) (tr : Conversion) (i : Insert) (rest : List Insert), InService s tr i rest →
    i.results.length + 1 < (if i.kind = .test then 2 * i.size else i.size) →
    ∀ c code valid presence, ConversionEnds s tr c code valid presence →
      ∃ t r, exec c s = .next t ∧ OnlyBlocks s t ∧
        t.blocks = { s.blocks with clc := t.blocks.clc, sq := t.blocks.sq, po := t.blocks.po } ∧
        Notified s.blocks.po t.blocks.po ∧
        t.blocks.sq = { s.blocks.sq with inserts := { i with results := i.results ++ [r] } :: rest } ∧
        r.code = code ∧ r.valid = valid ∧ r.sample = sampleAt s.blocks tr.channel valid code ∧
        (∀ f x, OwnsCurrent s.blocks f x → x.conn.currentCh = tr.channel →
          (r.live = true ↔ x.state = .closing ∨ x.state = .closed ∨ x.state = .lineTest .test)) ∧
        t.blocks.clc.presence = presence ∧
        ∃ ch, t.blocks.clc.inFlight = some (requested s.time ch .insert) ∧
          (i.kind = .calibrate → ch = i.who) ∧
          ∀ x, s.blocks.feeder? i.who = some x →
            (i.kind = .precheck → ch = x.conn.lineCh) ∧
            (i.kind = .test →
              ch = if (i.results.length + 1) % 2 = 0 then x.conn.busCh else x.conn.lineCh)

/-- The eighth result of a calibration sets the offset to the floor of the mean of the raw codes, clamped to -512 … 511, unless
a result was not VALID, as one that the 2 ms expiry gives, saturated, or came while the feeder was live: then the offset stands
(R19, R20, R30, R36). -/
def Obligations.CalibrationSetsTheOffset : Prop :=
  ∀ (s : State) (tr : Conversion) (i : Insert) (rest : List Insert) (f : Nat) (x : Feeder), InService s tr i rest →
    i.kind = .calibrate → i.who = tr.channel → i.size = 8 → i.results.length = 7 →
    OwnsCurrent s.blocks f x → x.conn.currentCh = tr.channel → Unentangled f s →
    ∀ c code valid presence, ConversionEnds s tr c code valid presence →
      let fails := valid = false ∨ (∃ r ∈ i.results, r.valid = false) ∨
        (code = 32767 ∨ code = -32768 ∨ ∃ r ∈ i.results, r.code = 32767 ∨ r.code = -32768) ∨
        (x.state = .closing ∨ x.state = .closed ∨ x.state = .lineTest .test ∨ ∃ r ∈ i.results, r.live = true)
      ∃ t, exec c s = .next t ∧ OnlyBlocks s t ∧
        FeederEvents { s.blocks with clc := { s.blocks.clc with presence := presence } } t.blocks ∧
        (fails → t.blocks.FeederIs f x) ∧
        (¬ fails →
          t.blocks.FeederIs f { x with pu := { x.pu with
            offset := max (-512) (min 511 (((i.results.map (·.code)).sum + code) / 8)) } })

/-! ## Sample classes and protection -/

/-- The class and value of a converter result by the table of R41: the channel is a current channel when a feeder's record
names it so, and that feeder's offset is subtracted (R41). -/
def Obligations.SamplesAreClassifiedByTheTable : Prop :=
  ∀ (b : Blocks) (ch : Nat) (valid : Bool) (r : Int), -32768 ≤ r → r ≤ 32767 →
    (valid = false → sampleAt b ch valid r = ⟨.invalid, 0⟩) ∧
    (valid = true → r = 32767 → sampleAt b ch valid r = ⟨.over, 12000⟩) ∧
    (valid = true → -32768 < r → r < 32767 →
      (∀ f x, OwnsCurrent b f x → x.conn.currentCh = ch →
        (12000 < r - x.pu.offset → sampleAt b ch valid r = ⟨.over, 12000⟩) ∧
        (r - x.pu.offset < -12000 → sampleAt b ch valid r = ⟨.under, -12000⟩) ∧
        (-12000 ≤ r - x.pu.offset → r - x.pu.offset ≤ 12000 → sampleAt b ch valid r = ⟨.normal, r - x.pu.offset⟩)) ∧
      ((∀ f x, b.feeder? f = some x → x.conn.currentCh ≠ ch) →
        (r < 0 → sampleAt b ch valid r = ⟨.normal, 0⟩) ∧
        (0 ≤ r → r ≤ 12000 → sampleAt b ch valid r = ⟨.normal, r⟩) ∧
        (12000 < r → sampleAt b ch valid r = ⟨.over, 12000⟩))) ∧
    (valid = true → r = -32768 →
      ((∃ f x, b.feeder? f = some x ∧ x.conn.currentCh = ch) → sampleAt b ch valid r = ⟨.under, -12000⟩) ∧
      ((∀ f x, b.feeder? f = some x → x.conn.currentCh ≠ ch) → sampleAt b ch valid r = ⟨.under, 0⟩))

/-- The window monitor of an entry: what makes INSIDE CROSSED and in which direction, and what makes CROSSED INSIDE; the
direction of a crossing stands until it clears (R32). A walk sample that is not INVALID moves the limit state of its entry so,
that of a bound entry only while its section is ENERGISED, with LIMIT_CROSSED or LIMIT_CLEARED; a crossing of a bound entry
sets its section's LOW_VOLTAGE and a return clears it, with SECTION_STATE behind the limit notice (R25, R33, R34, R93). -/
def Obligations.WindowMonitorsCrossAndReturn : Prop :=
  (∀ (en : ScanEntry) (v : Int),
    (en.mode = .none → monitorStep en v = none) ∧
    (en.mode = .above →
      (en.crossing = none → (monitorStep en v = some .high ↔ en.limit1 < v) ∧ monitorStep en v ≠ some .low) ∧
      ∀ d, en.crossing = some d →
        (v ≤ en.limit1 - en.hysteresis → monitorStep en v = none) ∧
        (en.limit1 - en.hysteresis < v → monitorStep en v = some d)) ∧
    (en.mode = .below →
      (en.crossing = none → (monitorStep en v = some .low ↔ v < en.limit1) ∧ monitorStep en v ≠ some .high) ∧
      ∀ d, en.crossing = some d →
        (en.limit1 + en.hysteresis ≤ v → monitorStep en v = none) ∧
        (v < en.limit1 + en.hysteresis → monitorStep en v = some d)) ∧
    (en.mode = .outside → en.limit1 ≤ en.limit2 →
      (en.crossing = none →
        (monitorStep en v = some .low ↔ v < en.limit1) ∧ (monitorStep en v = some .high ↔ en.limit2 < v)) ∧
      ∀ d, en.crossing = some d →
        (monitorStep en v = none ↔ en.limit1 + en.hysteresis ≤ v ∧ v ≤ en.limit2 - en.hysteresis) ∧
        (monitorStep en v = none ∨ monitorStep en v = some d))) ∧
  ∀ (s : State) (tr : Conversion) (en : ScanEntry) (c : Instr) (code : Int) (valid : Bool) (presence : Vector Presence 6),
    Walking s tr en → ConversionEnds s tr c code valid presence →
    (∀ sec, en.binding = some sec → (s.blocks.section? sec).isSome = true) →
    let v := sampleAt s.blocks tr.channel valid code
    let q := s.blocks.sq
    let new := monitorStep en v.value
    let voltage := ∀ g y, s.blocks.feeder? g = some y → y.conn.currentCh ≠ tr.channel
    let runs := v.cls ≠ .invalid ∧
      ∀ sec z, en.binding = some sec → s.blocks.section? sec = some z → z.state = .energised
    let note (d : CrossDir) : LimitContent := ⟨q.next, en.channel, v.cls, v.value, d, q.cycles⟩
    let crossed (d : CrossDir) : Notice := ⟨s.time, .limitCrossed (note d)⟩
    let cleared (d : CrossDir) : Notice := ⟨s.time, .limitCleared (note d)⟩
    ∃ t, exec c s = .next t ∧
      (voltage → ∀ i, i ≠ q.next → look t.blocks.sq.slots i = look q.slots i) ∧
      (en.binding = none ∨ voltage →
        (¬ runs → look t.blocks.sq.slots q.next = some en) ∧
        (runs → look t.blocks.sq.slots q.next = some { en with crossing := new } ∧
          (∀ d, en.crossing = none → new = some d → NotifiedOf (crossed d) s.blocks.po t.blocks.po) ∧
          ∀ d, en.crossing = some d → new = none → NotifiedOf (cleared d) s.blocks.po t.blocks.po)) ∧
      ∀ sec z, voltage → en.binding = some sec → s.blocks.section? sec = some z →
        let low (on : Bool) (first : Notice) : Prop :=
          t.blocks.section? sec = some { z with lowVoltage := on } ∧
            (z.lowVoltage ≠ on → NotifiedInOrder
              [first, ⟨s.time, .sectionState sec z.state on z.occupancy z.inhibit z.permits⟩] s.blocks.po t.blocks.po)
        (∀ d, runs → en.crossing = none → new = some d → low true (crossed d)) ∧
        (∀ d, runs → en.crossing = some d → new = none → low false (cleared d)) ∧
        (¬ runs ∨ en.crossing.isSome = new.isSome → t.blocks.section? sec = some z)

/-- A feeder's thermal value moves only on a walk sample of its current channel that carries a value, by the floor of its
distance to S over 2^k; a trip, a reclose, SET_PROTECTION, a calibration and a change of state leave it (R47). After it has moved,
the thermal alarm arming is SPENT from θ_alarm on, with THERMAL_ALARM where it was ARMED, and ARMED below; and below θ_alarm a
feeder in COOLING ends its dead time (R48, R73, R74). -/
def Obligations.ThetaMovesOnlyOnCurrentSamples : Prop :=
  (∀ (i : Instr) (s t : State) (f : Nat) (x : Feeder), exec i s = .next t → s.blocks.feeder? f = some x →
    (∀ a, i ≠ .converterAnswer a) → i ≠ .converterAnswerExpiry → i ≠ .powerOnReset →
    (∀ p bytes, i ≠ .requestFrame p bytes) → (∀ p tag, i ≠ .restart p tag) → (∀ p tag, i ≠ .startRun p tag) →
    ∃ y, t.blocks.feeder? f = some y ∧ y.pu.theta = x.pu.theta ∧ y.pu.offset = x.pu.offset) ∧
  ∀ (s t : State) (tr : Conversion) (f : Nat) (x : Feeder), s.blocks.clc.inFlight = some tr → s.blocks.feeder? f = some x →
    (exec .converterAnswerExpiry s = .next t → ∃ y, t.blocks.feeder? f = some y ∧ y.pu.theta = x.pu.theta) ∧
    (∀ a, exec (.converterAnswer a) s = .next t → tr.owner ≠ .walk ∨ x.conn.currentCh ≠ tr.channel →
      ∃ y, t.blocks.feeder? f = some y ∧ y.pu.theta = x.pu.theta) ∧
    (∀ bytes en code valid, Walking s tr en → OwnsCurrent s.blocks f x → x.conn.currentCh = tr.channel →
      CorrectAnswer bytes tr.channel code valid →
      let v := sampleAt s.blocks tr.channel valid code
      ∃ t y, exec (.converterAnswer ⟨false, bytes⟩) s = .next t ∧ t.blocks.feeder? f = some y ∧
        (v.cls = .invalid → y.pu.theta = x.pu.theta) ∧
        (v.cls ≠ .invalid →
          y.pu.theta = x.pu.theta + (v.value * v.value / 4096 - x.pu.theta) / 2 ^ x.conn.settings.k ∧
            let alarm := x.conn.settings.thetaAlarm
            let waits := x.role = .follower ∧
              ∀ g z, s.env.partner f = some g → s.blocks.feeder? g = some z → z.state ≠ .closed
            y.pu.alarmArmed = decide (y.pu.theta < alarm) ∧
            (alarm ≤ y.pu.theta → x.pu.alarmArmed = true →
              NotifiedOf ⟨s.time, .thermalAlarm f y.pu.theta alarm⟩ s.blocks.po t.blocks.po) ∧
            (x.state = .deadTime .cooling →
              (alarm ≤ y.pu.theta → y.state = .deadTime .cooling) ∧
              (y.pu.theta < alarm → waits → y.state = .deadTime .awaitLeader) ∧
              (y.pu.theta < alarm → ¬ waits →
                y.state = .lineTest (if s.blocks.sq.inserts.length < 4 then .precheck else .waitSlot)))))

/-- A current sample of a feeder in CLOSING or CLOSED trips it with the first cause met of INST, REVERSE, STEP and THERMAL, with
the close-onto-fault mark in CLOSING, and intertrips its partner where that is CLOSING or CLOSED. A trip of a feeder whose
contact reads OPEN, as it does in CLOSING, is over at once: LOCKOUT with cause CLOSE_ONTO_FAULT for the mark, and R70's state for
a partner (R68, R70, R81). A sample that meets none leaves its state. In CLOSED the sample moves the step state (R44, R49 to R54,
R67). That the partner is intertripped before the trip is over is the model's reading (log 8). -/
def Obligations.CurrentSamplesTripByTheFirstCriterion : Prop :=
  ∀ (s : State) (tr : Conversion) (en : ScanEntry) (f : Nat) (x : Feeder) (bytes : List Byte) (code : Int),
    Walking s tr en → OwnsCurrent s.blocks f x → x.conn.currentCh = tr.channel →
    CorrectAnswer bytes tr.channel code true → x.Live → s.env.partner f ≠ some f → WaitersWait s →
    let v := sampleAt s.blocks tr.channel true code
    let set := x.conn.settings
    let theta := x.pu.theta + (v.value * v.value / 4096 - x.pu.theta) / 2 ^ set.k
    let inst := v.cls = .over ∨ set.iInst ≤ v.value
    let reverse := set.iRev ≠ 0 ∧ (v.cls = .under ∨ v.value ≤ -set.iRev)
    let stepMet := x.state = .closed ∧
      ∃ a, x.pu.step = some a ∧ a.holdLevel ≤ v.value ∧ set.tStep ≤ (s.time - a.armTime).toNat
    let thermal := set.thetaTrip ≤ theta
    let back := (x.pu.ring ++ [(⟨v.value, s.time⟩ : RingEntry)]).reverse[set.w]?
    ∃ t y, exec (.converterAnswer ⟨false, bytes⟩) s = .next t ∧ OnlyBlocks s t ∧ t.blocks.feeder? f = some y ∧
      y.pu.theta = theta ∧ y.pu.invalidRun = 0 ∧
      (∀ c, (c = .inst ∧ inst) ∨ (c = .reverse ∧ ¬ inst ∧ reverse) ∨ (c = .step ∧ ¬ inst ∧ ¬ reverse ∧ stepMet) ∨
          (c = .thermal ∧ ¬ inst ∧ ¬ reverse ∧ ¬ stepMet ∧ thermal) →
        PuTripped s f x c y ∧ PartnerIntertripped s f t.blocks) ∧
      (¬ inst → ¬ reverse → ¬ stepMet → ¬ thermal →
        y.state = x.state ∧ y.cause = x.cause ∧ y.pu.stale = some ⟨s.time, set.tStale⟩ ∧
          (x.state = .closing → y.pu.step = x.pu.step) ∧
          (x.state = .closed →
            (∀ a, x.pu.step = some a → y.pu.step = if v.value < a.holdLevel then none else some a) ∧
            (x.pu.step = none →
              (∀ old, set.w < 16 → back = some old → set.dIset ≤ v.value - old.value →
                y.pu.step = some ⟨old.value, old.value + set.dIset / 2, s.time⟩) ∧
              ((∀ old, set.w < 16 → back = some old → v.value - old.value < set.dIset) → y.pu.step = none))))

/-- A stale timer that has run out raises DEGRADED: with policy TRIP the feeder is tripped for it while CLOSING or CLOSED,
with the partner's intertrip, and where a contact reads OPEN the trip is over at once, in CLOSING with LOCKOUT and cause
CLOSE_ONTO_FAULT (R67, R68, R70); with policy HOLD it stays and the degraded notice is spent; the timer is stopped either way.
Before its time the command changes nothing (R55, R56). That last is the model's choice (log 4). An INVALID current sample, of an
answer or of the 2 ms expiry, counts the invalid run up to 255, and from the third on, in CLOSING and CLOSED, raises DEGRADED with
reason INVALID in the same two ways; it leaves ring, θ, step state and stale timer (R45). -/
def Obligations.StaleTimersDegrade : Prop :=
  (∀ (f : Nat) (s : State) (x : Feeder), s.mode = .run → s.blocks.feeder? f = some x →
    ((∀ y, x.pu.stale = some y → (s.time - y.start).toNat < y.setting) → exec (.staleTimerExpiry f) s = .next s) ∧
    ∀ y, x.pu.stale = some y → y.setting ≤ (s.time - y.start).toNat →
      ∃ t, exec (.staleTimerExpiry f) s = .next t ∧ OnlyBlocks s t ∧ EventFrame s.blocks t.blocks ∧
        (x.conn.settings.policy = .hold →
          t.blocks.feeder? f = some { x with pu := { x.pu with stale := none, degradeArmed := false } } ∧
            (∀ g, g ≠ f → t.blocks.feeder? g = s.blocks.feeder? g) ∧
            t.blocks.po = if x.pu.degradeArmed then
              s.blocks.po.placeOn ⟨s.time, .protectionDegraded f .stale x.pu.invalidRun⟩ [.dispatch] else s.blocks.po) ∧
        (x.conn.settings.policy = .trip → x.Live → s.env.partner f ≠ some f → WaitersWait s →
          (∃ z, t.blocks.feeder? f = some z ∧ PuTripped s f x .degraded z) ∧ PartnerIntertripped s f t.blocks) ∧
        (x.conn.settings.policy = .trip → x.state ≠ .closing → x.state ≠ .closed →
          t.blocks = s.blocks.setFeeder f { x with pu := { x.pu with stale := none } })) ∧
  ∀ (f : Nat) (s : State) (x : Feeder) (tr : Conversion) (en : ScanEntry) (c : Instr) (code : Int) (valid : Bool)
      (presence : Vector Presence 6),
    Walking s tr en → OwnsCurrent s.blocks f x → x.conn.currentCh = tr.channel →
    ConversionEnds s tr c code valid presence → (sampleAt s.blocks tr.channel valid code).cls = .invalid →
    let run := min 255 (x.pu.invalidRun + 1)
    let counted : Feeder := { x with pu := { x.pu with invalidRun := run } }
    ∃ t, exec c s = .next t ∧ OnlyBlocks s t ∧
      (¬ x.Live ∨ run < 3 → t.blocks.feeder? f = some counted) ∧
      (x.Live → 3 ≤ run → x.conn.settings.policy = .hold →
        t.blocks.feeder? f = some { counted with pu := { counted.pu with degradeArmed := false } } ∧
          (x.pu.degradeArmed = true →
            NotifiedOf ⟨s.time, .protectionDegraded f .invalid run⟩ s.blocks.po t.blocks.po)) ∧
      (x.Live → 3 ≤ run → x.conn.settings.policy = .trip → s.env.partner f ≠ some f → WaitersWait s →
        ∃ z, t.blocks.feeder? f = some z ∧ z.pu.invalidRun = run ∧ z.pu.theta = x.pu.theta ∧ z.pu.ring = x.pu.ring ∧
          PuTripped s f x .degraded z ∧ PartnerIntertripped s f t.blocks)

/-! ## Line tests -/

/-- The last conversion of a precheck, ended by an answer or by the 2 ms expiry (an INVALID sample), gives its result from all
its samples, the settings read then, and moves the feeder by its role: INVALID locks out; PASSED goes to SETTLE; BACKFED
closes a follower, and sends a leader into a dead time, or at the third in a row into LOCKOUT (R59, R63, R76). -/
def Obligations.PrechecksMoveTheFeeder : Prop :=
  ∀ (s : State) (tr : Conversion) (i : Insert) (rest : List Insert) (x : Feeder) (z : SectionRec), InService s tr i rest →
    i.kind = .precheck → i.results.length + 1 = i.size → s.blocks.feeder? i.who = some x → x.state = .lineTest .precheck →
    Unentangled i.who s → s.env.aux i.who = .opened → s.blocks.section? x.conn.sec = some z →
    ∀ c code valid presence, ConversionEnds s tr c code valid presence →
      let ss := i.results.map (·.sample) ++ [sampleAt s.blocks tr.channel valid code]
      let v := (ss.map (·.value)).sum / (i.size : Int)
      let dead : FeederState := if 0 < z.inhibit then .waitClear else .deadTime .timing
      ∃ t y, exec c s = .next t ∧ OnlyBlocks s t ∧
        FeederEvents { s.blocks with clc := { s.blocks.clc with presence := presence } } t.blocks ∧
        t.blocks.feeder? i.who = some y ∧ y.attempts = x.attempts ∧ y.conn = x.conn ∧
        ((∃ p ∈ ss, p.cls ≠ .normal) →
          y.state = .lockout ∧ y.cause = some .testInvalid ∧ y.backfed = x.backfed ∧ y.stateTimer = none ∧
            y.lastTest = some ⟨.precheck .invalid none, s.time⟩) ∧
        ((∀ p ∈ ss, p.cls = .normal) →
          (v < x.conn.settings.vBf →
            y.state = .lineTest .settle ∧ y.cause = x.cause ∧ y.backfed = x.backfed ∧ y.testContactor = true ∧
              y.stateTimer = some ⟨s.time, x.conn.settings.tSettle⟩ ∧
              y.lastTest = some ⟨.precheck .passed (some v), s.time⟩) ∧
          (x.conn.settings.vBf ≤ v →
            y.lastTest = some ⟨.precheck .backfed (some v), s.time⟩ ∧
            (x.role = .follower →
              y.state = .closing ∧ y.cause = x.cause ∧ y.backfed = 0 ∧ y.closeCoil = true ∧
                y.stateTimer = some ⟨s.time, x.conn.settings.tClose⟩) ∧
            (x.role ≠ .follower → x.backfed < 2 →
              y.state = dead ∧ y.cause = x.cause ∧ y.backfed = x.backfed + 1 ∧
                y.stateTimer = if dead = .waitClear then none else some ⟨s.time, x.conn.settings.tDead⟩) ∧
            (x.role ≠ .follower → 2 ≤ x.backfed →
              y.state = .lockout ∧ y.cause = some .backfed ∧ y.backfed = 3 ∧ y.stateTimer = none)))

/-- The last conversion of a test, ended by an answer or by the 2 ms expiry (an INVALID sample), gives class, resistance and
outcome from the averages of its pairs, R_t, R_min and the occupancy of the section read then, and moves the feeder: HEALTHY
closes it, FAULTY counts an attempt and goes to a dead time or LOCKOUT, INVALID locks out (R60 to R63, R78). -/
def Obligations.TestsMoveTheFeeder : Prop :=
  ∀ (s : State) (tr : Conversion) (i : Insert) (rest : List Insert) (x : Feeder) (z : SectionRec), InService s tr i rest →
    i.kind = .test → i.results.length + 1 = 2 * i.size → s.blocks.feeder? i.who = some x → x.state = .lineTest .test →
    Unentangled i.who s → s.env.aux i.who = .opened → s.blocks.section? x.conn.sec = some z →
    ∀ c code valid presence (pairs : List (Sample × Sample)), ConversionEnds s tr c code valid presence →
      i.results.map (·.sample) ++ [sampleAt s.blocks tr.channel valid code] = pairs.flatMap (fun p => [p.1, p.2]) →
      let set := x.conn.settings
      let u := (pairs.map fun p => p.1.value).sum / (i.size : Int)
      let v := (pairs.map fun p => p.2.value).sum / (i.size : Int)
      let rEff := set.rMin / 2 ^ (min 3 z.occupancy)
      let r := min 65535 (set.rT * v / (u - v))
      let dead : FeederState := if 0 < z.inhibit then .waitClear else .deadTime .timing
      ∃ t y, exec c s = .next t ∧ OnlyBlocks s t ∧
        FeederEvents { s.blocks with clc := { s.blocks.clc with presence := presence } } t.blocks ∧
        t.blocks.feeder? i.who = some y ∧ y.conn = x.conn ∧
        (let healthy (c : TestClass) (q : Int) : Prop :=
           y.state = .closing ∧ y.cause = x.cause ∧ y.attempts = x.attempts ∧ y.backfed = 0 ∧ y.closeCoil = true ∧
             y.stateTimer = some ⟨s.time, set.tClose⟩ ∧ y.lastTest = some ⟨.test c q .healthy, s.time⟩
         let faulty (c : TestClass) (q : Int) : Prop :=
           y.attempts = (if x.attempts < set.nRc then x.attempts + 1 else x.attempts) ∧ y.cause = x.cause ∧
             y.backfed = x.backfed ∧ y.state = (if y.attempts < set.nRc then dead else .lockout) ∧
             y.lastTest = some ⟨.test c q .faulty, s.time⟩
         ((∃ p ∈ pairs, p.1.cls ≠ .normal ∨ p.2.cls ≠ .normal) →
           y.state = .lockout ∧ y.cause = some .testInvalid ∧ y.attempts = x.attempts ∧
             y.lastTest = some ⟨.test .invalid 0 .invalid, s.time⟩) ∧
         ((∀ p ∈ pairs, p.1.cls = .normal ∧ p.2.cls = .normal) →
           (v < 50 → faulty .short 0) ∧
           (50 ≤ v → u - v ≤ 0 → healthy .opened 65535) ∧
           (50 ≤ v → 0 < u - v → (rEff ≤ r → healthy .normal r) ∧ (r < rEff → faulty .normal r))))

/-! ## Feeders -/

/-- A contact report of OPEN ends a trip, or is an external opening of a CLOSED breaker: the next state, cause, role, counts,
timer and outputs are those of R70's table; in every other state, and where the contact read OPEN, only the input follows
(R69, R70, R72, R73). Where it ends its sequence, its follower is treated by R81's table; where it was the last that fed its
section, the section goes DEAD with its notice, its broadcast in the Transmit Queue and the end of its MOVING points (R91,
R92, R123, R167); the permits of the section are decided again (R101). The role at LOCKOUT is read by R81 as log 7 says. -/
def Obligations.OpenReportsEndTrips : Prop :=
  ∀ (f : Nat) (s : State) (x : Feeder) (z : SectionRec), s.mode = .run → s.blocks.feeder? f = some x →
    s.blocks.section? x.conn.sec = some z →
    let pins : Pins := { s.pins with aux := s.pins.aux.setIfInBounds f .opened }
    (s.env.aux f = .opened ∨ (x.state ≠ .tripping ∧ x.state ≠ .closed) →
      exec (.contactReportOpen f) s = .next { s with pins := pins }) ∧
    (s.env.aux f = .closed → x.state = .tripping ∨ x.state = .closed → Unentangled f s →
      let c : Cause := if x.state = .closed then .external else x.cause.getD .command
      let role : RecloseRole :=
        if x.state = .tripping then x.role
        else if s.env.partner f ≠ none ∧ z.leader = s.env.partner f then .follower
        else .leader
      let leads := if x.state = .tripping then z.leader = some f else role = .leader
      let next : FeederState × Cause :=
        if c = .command then (.opened, c)
        else if c = .permit then (.held, c)
        else if x.closeOntoFault = true then (.lockout, .closeOntoFault)
        else if c = .degraded ∨ c = .partner then (.lockout, c)
        else if 0 < z.inhibit then (.waitClear, c)
        else if c ≠ .vehicle ∧ x.conn.settings.nRc = 0 then (.lockout, c)
        else (.deadTime .timing, c)
      let rests := next.1 = .opened ∨ next.1 = .held
      ∃ t, exec (.contactReportOpen f) s = .next t ∧ t = { s with pins := pins, blocks := t.blocks } ∧
        EventFrame s.blocks t.blocks ∧
        t.blocks.FeederIs f
          { x with
            state := next.1, cause := some next.2
            attempts := if rests then 0 else x.attempts
            backfed := if rests then 0 else x.backfed
            role := if rests ∨ (next.1 = .lockout ∧ leads) then .none else role
            openPending := if rests then false else x.openPending
            closeOntoFault := false
            stateTimer := if next.1 = .deadTime .timing then some ⟨s.time, x.conn.settings.tDead⟩ else none
            resetTimer := none, tripCoil := false, closeCoil := false, testContactor := false
            pu := { x.pu with stale := none, step := if x.state = .closed then none else x.pu.step } } ∧
        (rests ∨ next.1 = .lockout → FollowerLosesLeader s f t.blocks) ∧
        (RunAgrees s → z.permits = 0 → z.state = .energised →
          (∀ g y, s.blocks.feeder? g = some y → g ≠ f → y.conn.sec = x.conn.sec →
            y.state ≠ .closed ∧ (y.state = .tripping → s.env.aux g = .opened)) →
          SectionDies s x.conn.sec z t.blocks) ∧
        (RunAgrees s → PermitsAgree s → WaitersWait s → PermitsRedecided s x.conn.sec t.blocks))

/-- A contact report of CLOSED completes a close, where an OPEN_FEEDER that waits trips the feeder at once; in the open states
it is an external close, which abandons any sequence and withdraws its line test (R31); in HELD it is tripped for the permit;
elsewhere, and where the contact read CLOSED, only the input follows (R72, R79, R80). A follower that waits for this feeder to
close enters its line test (R81), an uncovered section is ENERGISED, with SEC_LIVE in the Transmit Queue where it was not
(R91, R92, R167), and the permits of the section are decided again (R101, R105). -/
def Obligations.ClosedReportsEndCloses : Prop :=
  ∀ (f : Nat) (s : State) (x : Feeder), s.mode = .run → s.blocks.feeder? f = some x →
    let pins : Pins := { s.pins with aux := s.pins.aux.setIfInBounds f .closed }
    let set := x.conn.settings
    let closed : Feeder :=
      { x with
        state := .closed, stateTimer := none, resetTimer := some ⟨s.time, set.tReset * 1000⟩
        tripCoil := false, closeCoil := false, testContactor := false, pu := { x.pu with ring := [] } }
    let tripped (y : Feeder) (c : Cause) : Feeder :=
      { y with
        state := .tripping, cause := some c, stateTimer := some ⟨s.time, set.tTrip⟩, resetTimer := none
        closeOntoFault := false, tripCoil := true, closeCoil := false, testContactor := false
        pu := { y.pu with stale := none, step := if y.state = .closed then none else y.pu.step } }
    (s.env.aux f = .closed ∨ x.state = .closed ∨ x.state = .tripping ∨ x.state = .breakerFail →
      exec (.contactReportClosed f) s = .next { s with pins := pins }) ∧
    (s.env.aux f = .opened → s.env.partner f ≠ some f → x.state ≠ .closed → x.state ≠ .tripping → x.state ≠ .breakerFail →
      ∃ t, exec (.contactReportClosed f) s = .next t ∧ t = { s with pins := pins, blocks := t.blocks } ∧
        EventFrame s.blocks t.blocks ∧
        (x.state = .closing →
          let y : Feeder := { closed with openPending := false, closeOntoFault := false }
          t.blocks.FeederIs f (if x.openPending = true then tripped y .command else y)) ∧
        (x.state = .held → t.blocks.FeederIs f (tripped x .permit)) ∧
        (x.state ≠ .closing → x.state ≠ .held →
          t.blocks.FeederIs f { closed with cause := some .external } ∧ Withdrawn s f t.blocks) ∧
        (WaitersWait s → x.state ≠ .held → FollowerTests s f t.blocks) ∧
        (RunAgrees s → ∀ z, s.blocks.section? x.conn.sec = some z → z.permits = 0 →
          (∃ y, t.blocks.section? x.conn.sec = some y ∧ y.state = .energised) ∧
            (WaitersWait s → z.state ≠ .energised → HandedOver s (.secLive x.conn.sec) t.blocks)) ∧
        (RunAgrees s → PermitsAgree s → WaitersWait s → PermitsRedecided s x.conn.sec t.blocks))

/-- T_trip running out in TRIPPING is a breaker failure, which intertrips every other feeder of the bus that is CLOSED or
CLOSING: TRIPPING with its contact CLOSED, and with it OPEN the trip is over at once (R68, R70, R71). T_close running out in
CLOSING is one without an intertrip (R79). In both its follower is treated by R81's table, where no intertrip meets it too;
the permits of the section are decided again (R101). Before its time, and in another state, neither changes anything. That a
timer not yet due changes nothing, that any feeder that fails its close gets role NONE, and that a partner on the same bus is
treated by R81 before its intertrip, is the model's choice (logs 4, 7 and 46). -/
def Obligations.TripAndCloseTimersFailTheBreaker : Prop :=
  ∀ (f : Nat) (s : State) (x : Feeder), s.mode = .run → s.blocks.feeder? f = some x → s.env.partner f ≠ some f →
    (∀ w ∈ s.blocks.sq.waiting, w.feeder ≠ f) →
    let failed : Feeder :=
      { x with
        state := .breakerFail, role := .none, openPending := false, closeOntoFault := false, stateTimer := none
        resetTimer := none, tripCoil := false, closeCoil := false, testContactor := false
        pu := { x.pu with stale := none } }
    let due := ∃ y, x.stateTimer = some y ∧ y.setting ≤ (s.time - y.start).toNat
    (¬ (x.state = .tripping ∧ due) → exec (.tripTimerExpiry f) s = .next s) ∧
    (¬ (x.state = .closing ∧ due) → exec (.closeTimerExpiry f) s = .next s) ∧
    (x.state = .closing → due →
      ∃ t, exec (.closeTimerExpiry f) s = .next t ∧ OnlyBlocks s t ∧ EventFrame s.blocks t.blocks ∧
        t.blocks.FeederIs f failed ∧ FollowerLosesLeader s f t.blocks ∧
        (RunAgrees s → PermitsAgree s → PermitsRedecided s x.conn.sec t.blocks)) ∧
    (x.state = .tripping → due → WaitersWait s →
      ∃ t, exec (.tripTimerExpiry f) s = .next t ∧ OnlyBlocks s t ∧ EventFrame s.blocks t.blocks ∧
        t.blocks.FeederIs f failed ∧
        (∀ g ∈ s.env.busFeeders x.conn.bus, g ≠ f → ∀ y, s.blocks.feeder? g = some y → y.Live →
          ∃ w, t.blocks.feeder? g = some w ∧ w.closeCoil = false ∧
            (s.env.aux g = .closed → w.state = .tripping ∧ w.tripCoil = true ∧
              w.stateTimer = some ⟨s.time, y.conn.settings.tTrip⟩ ∧ (w.cause = some .intertrip ∨ w.cause = some .partner) ∧
              ((∀ h ∈ s.env.busFeeders x.conn.bus, ∀ u, s.blocks.feeder? h = some u → u.Live → s.env.aux h = .closed) →
                w.cause = some .intertrip)) ∧
            (s.env.aux g = .opened → w.tripCoil = false ∧
              ((w.state = openIntertrip s.blocks y ∧ w.cause = some .intertrip) ∨
                (w.state = .lockout ∧ w.cause = some .partner)))) ∧
        (RunAgrees s →
          (∀ g y, s.env.partner f = some g → s.blocks.feeder? g = some y → y.Live → g ∉ s.env.busFeeders x.conn.bus) →
          FollowerLosesLeader s f t.blocks) ∧
        (RunAgrees s → PermitsAgree s → PermitsRedecided s x.conn.sec t.blocks))

/-- T_dead running out ends the dead time: COOLING for a feeder tripped THERMAL that is still hot, AWAIT_LEADER for a
follower whose partner is not CLOSED, a precheck otherwise. T_settle running out asks for the test. T_reset running out in
CLOSED ends the sequence. Before its time, and in another state, none changes anything (R73 to R75, R77, R80). That last is
the model's choice (log 4). -/
def Obligations.DeadSettleAndResetTimers : Prop :=
  ∀ (f : Nat) (s : State) (x : Feeder), s.mode = .run → s.blocks.feeder? f = some x →
    let due (y : Option Timer) := ∃ z, y = some z ∧ z.setting ≤ (s.time - z.start).toNat
    let room := s.blocks.sq.inserts.length < 4
    let still (st : FeederState) (driven : Bool) : Feeder :=
      { x with
        state := st, stateTimer := none, resetTimer := none, tripCoil := false, closeCoil := false
        testContactor := driven, pu := { x.pu with stale := none } }
    let asked (k : InsertKind) (t : State) : Prop :=
      (room → t.blocks.sq.inserts = s.blocks.sq.inserts ++ [⟨k, f, x.conn.settings.nLt, []⟩] ∧
        t.blocks.sq.waiting = s.blocks.sq.waiting) ∧
      (¬ room → t.blocks.sq.inserts = s.blocks.sq.inserts ∧ t.blocks.sq.waiting = s.blocks.sq.waiting ++ [⟨k, f⟩])
    (¬ (x.state = .deadTime .timing ∧ due x.stateTimer) → exec (.deadTimeExpiry f) s = .next s) ∧
    (¬ (x.state = .lineTest .settle ∧ due x.stateTimer) → exec (.settleTimerExpiry f) s = .next s) ∧
    (¬ (x.state = .closed ∧ due x.resetTimer) → exec (.resetTimerExpiry f) s = .next s) ∧
    (x.state = .deadTime .timing → due x.stateTimer →
      ∃ t, exec (.deadTimeExpiry f) s = .next t ∧ OnlyBlocks s t ∧ EventFrame s.blocks t.blocks ∧
        let hot := x.cause = some .thermal ∧ x.conn.settings.thetaAlarm ≤ x.pu.theta
        let waits := x.role = .follower ∧
          ∀ g y, s.env.partner f = some g → s.blocks.feeder? g = some y → y.state ≠ .closed
        (hot → t.blocks.FeederIs f (still (.deadTime .cooling) false) ∧ t.blocks.sq.inserts = s.blocks.sq.inserts) ∧
        (¬ hot → waits →
          t.blocks.FeederIs f (still (.deadTime .awaitLeader) false) ∧ t.blocks.sq.inserts = s.blocks.sq.inserts) ∧
        (¬ hot → ¬ waits → asked .precheck t ∧
          (room → t.blocks.FeederIs f (still (.lineTest .precheck) false)) ∧
          (¬ room → t.blocks.FeederIs f (still (.lineTest .waitSlot) false)))) ∧
    (x.state = .lineTest .settle → due x.stateTimer →
      ∃ t, exec (.settleTimerExpiry f) s = .next t ∧ OnlyBlocks s t ∧ EventFrame s.blocks t.blocks ∧ asked .test t ∧
        (room → t.blocks.FeederIs f (still (.lineTest .test) true)) ∧
        (¬ room → t.blocks.FeederIs f (still (.lineTest .waitTestSlot) false))) ∧
    (x.state = .closed → due x.resetTimer →
      ∃ t, exec (.resetTimerExpiry f) s = .next t ∧ OnlyBlocks s t ∧ EventFrame s.blocks t.blocks ∧
        t.blocks.feeder? f = some { x with attempts := 0, role := .none, resetTimer := none } ∧
        (∀ g, g ≠ f → t.blocks.feeder? g = s.blocks.feeder? g) ∧
        ∀ sec z, s.blocks.section? sec = some z →
          t.blocks.section? sec =
            some { z with leader := if sec = x.conn.sec ∧ z.leader = some f then none else z.leader })

/-- CLOSE_FEEDER, OPEN_FEEDER and RESET_FEEDER by the feeder's state, and SET_PROTECTION in every state: the replies, and the
record that follows (R54, R84 to R88); a number above 15 is refused BAD_ARGUMENT, an absent feeder NO_SUCH (R5). That a feeder
reset into HELD has cause PERMIT is read in R84 as log 11 says; the order of SET_PROTECTION's refusals is the model's choice
(log 22). -/
def Obligations.FeederRequestsActByState : Prop :=
  ∀ (tag f : Nat) (s : State), s.mode = .run → Roomy .dispatch s →
    let reply (k : ReqKind) (c : ReplyCode) := s.answered .dispatch tag k c false .none
    let refused (c : ReplyCode) : Prop :=
      exec (.closeFeeder .dispatch tag f) s = .next (reply .closeFeeder c) ∧
        exec (.openFeeder .dispatch tag f) s = .next (reply .openFeeder c) ∧
        exec (.resetFeeder .dispatch tag f) s = .next (reply .resetFeeder c) ∧
        ∀ a, exec (.setProtection .dispatch tag f a) s = .next (reply .setProtection c)
    (16 ≤ f → refused .badArgument) ∧ (f < 16 → s.blocks.feeder? f = none → refused .noSuch) ∧
    ∀ (x : Feeder) (z : SectionRec), s.blocks.feeder? f = some x → s.blocks.section? x.conn.sec = some z →
      s.env.partner f ≠ some f →
      let set := x.conn.settings
      let acts (i : Instr) (k : ReqKind) (c : ReplyCode) (y : Feeder) : Prop :=
        ∃ t, exec i s = .next t ∧ OnlyBlocks s t ∧ EventFrame (reply k c).blocks t.blocks ∧ t.blocks.FeederIs f y
      let moved (st : FeederState) (c : Cause) : Feeder :=
        { x with
          state := st, cause := some c, stateTimer := none, resetTimer := none, tripCoil := false, closeCoil := false
          testContactor := false
          pu := { x.pu with stale := none, step := if x.state = .closed then none else x.pu.step } }
      let rested (st : FeederState) (c : Cause) : Feeder :=
        { moved st c with attempts := 0, backfed := 0, role := .none, openPending := false, closeOntoFault := false }
      (x.state = .closed → exec (.closeFeeder .dispatch tag f) s = .next (reply .closeFeeder .done)) ∧
      (x.state = .breakerFail → exec (.closeFeeder .dispatch tag f) s = .next (reply .closeFeeder .failedState)) ∧
      (x.state = .held → exec (.closeFeeder .dispatch tag f) s = .next (reply .closeFeeder .held)) ∧
      (x.state = .closing ∨ x.state = .tripping ∨ x.state = .waitClear ∨ (∃ ph, x.state = .deadTime ph) ∨
          (∃ ph, x.state = .lineTest ph) →
        exec (.closeFeeder .dispatch tag f) s = .next (reply .closeFeeder .busy)) ∧
      (x.state = .opened ∨ x.state = .lockout →
        (0 < z.inhibit → exec (.closeFeeder .dispatch tag f) s = .next (reply .closeFeeder .vehicleFault)) ∧
        (z.inhibit = 0 → acts (.closeFeeder .dispatch tag f) .closeFeeder .accepted
          { moved (.lineTest (if s.blocks.sq.inserts.length < 4 then .precheck else .waitSlot)) .command with
            attempts := 0, backfed := 0
            role :=
              match s.env.partner f with
              | none => .leader
              | some g =>
                if (s.blocks.feeder? g).any fun y => decide (y.state = .closed) then .follower else .leader })) ∧
      (x.state = .closed → s.env.aux f = .closed → acts (.openFeeder .dispatch tag f) .openFeeder .accepted
        { moved .tripping .command with
          tripCoil := true, closeOntoFault := false, stateTimer := some ⟨s.time, set.tTrip⟩ }) ∧
      (x.state = .closing → exec (.openFeeder .dispatch tag f) s =
        .next ((reply .openFeeder .accepted).onBlocks fun _ b => b.setFeeder f { x with openPending := true })) ∧
      (x.state = .waitClear ∨ x.state = .lockout ∨ (∃ ph, x.state = .deadTime ph) ∨ (∃ ph, x.state = .lineTest ph) →
        acts (.openFeeder .dispatch tag f) .openFeeder .done (rested .opened .command)) ∧
      (x.state = .opened ∨ x.state = .held ∨ x.state = .tripping →
        exec (.openFeeder .dispatch tag f) s = .next (reply .openFeeder .done)) ∧
      (x.state = .breakerFail → exec (.openFeeder .dispatch tag f) s = .next (reply .openFeeder .failedState)) ∧
      (x.state ≠ .breakerFail → x.state ≠ .lockout →
        exec (.resetFeeder .dispatch tag f) s = .next (reply .resetFeeder .wrongState)) ∧
      ((∀ w ∈ s.blocks.sq.waiting, w.feeder ≠ f) →
        (x.state = .lockout → acts (.resetFeeder .dispatch tag f) .resetFeeder .done (rested .opened .command)) ∧
        (x.state = .breakerFail →
          (s.env.aux f = .opened → acts (.resetFeeder .dispatch tag f) .resetFeeder .done
            (if 0 < z.permits then rested .held .permit else rested .opened .command)) ∧
          (s.env.aux f = .closed → z.permits = 0 → acts (.resetFeeder .dispatch tag f) .resetFeeder .done
            { moved .closed .command with
              attempts := 0, role := .none, resetTimer := some ⟨s.time, set.tReset * 1000⟩
              pu := { x.pu with ring := [] } }) ∧
          (s.env.aux f = .closed → 0 < z.permits → acts (.resetFeeder .dispatch tag f) .resetFeeder .done
            { moved .tripping .permit with
              attempts := 0, role := .none, tripCoil := true, stateTimer := some ⟨s.time, set.tTrip⟩ }))) ∧
      ∀ a : ProtectionArgs,
        (¬ ThresholdsFit a → exec (.setProtection .dispatch tag f a) s = .next (reply .setProtection .badArgument)) ∧
        ∀ new clamped, readProtection a = some (new, clamped) →
          exec (.setProtection .dispatch tag f a) s =
            .next ({ s.answered .dispatch tag .setProtection .done clamped .none with
              net := { s.net with feeders := amend s.net.feeders f fun r => { r with settings := new } } }.onBlocks
              fun e b =>
                let y : Feeder :=
                  { x with
                    conn := { x.conn with settings := new }
                    attempts := min new.nRc x.attempts
                    pu := { x.pu with
                      step := if new.w = set.w ∧ new.dIset = set.dIset then x.pu.step else none } }
                if new.nRc < x.attempts then say e (.feederState f y.state y.cause y.attempts y.role) (b.setFeeder f y)
                else b.setFeeder f y)

/-! ## Permits and readings -/

/-- ISOLATE and RELEASE: the refusals in their order; the permit enters or leaves the table, the counts of its sections
follow, and the feeders of a section that becomes covered or uncovered move by R83's tables, while every other feeder stays
(R83, R91, R96, R99 to R102). That a feeder HELD by a cover takes cause PERMIT, and keeps it when it is uncovered, is the
model's reading (log 11). -/
def Obligations.PermitsAreTakenAndReleased : Prop :=
  ∀ (tag number : Nat) (s : State), s.mode = .run → Roomy .works s →
    (∀ secs : List Nat,
      let reply (c : ReplyCode) := s.answered .works tag .isolate c false .none
      let fits := 1 ≤ number ∧ number ≤ 65535 ∧ 1 ≤ secs.length ∧ secs.length ≤ 4 ∧ (∀ sec ∈ secs, sec < 24) ∧ secs.Nodup
      let known := ∀ sec ∈ secs, (s.blocks.section? sec).isSome = true
      let fresh := ∀ q ∈ s.blocks.permits, q.number ≠ number
      (¬ fits → exec (.isolate .works tag number secs) s = .next (reply .badArgument)) ∧
      (fits → ¬ known → exec (.isolate .works tag number secs) s = .next (reply .noSuch)) ∧
      (fits → known → ¬ fresh → exec (.isolate .works tag number secs) s = .next (reply .badArgument)) ∧
      (fits → known → fresh → 32 ≤ s.blocks.permits.length →
        exec (.isolate .works tag number secs) s = .next (reply .full)) ∧
      (fits → known → fresh → s.blocks.permits.length < 32 → RunAgrees s → PermitsAgree s → SectionsObeyed s →
        ∃ t st, exec (.isolate .works tag number secs) s = .next t ∧ OnlyBlocks s t ∧
          EventFrame { (reply .accepted).blocks with sections := t.blocks.sections } t.blocks ∧
          t.blocks.permits = s.blocks.permits ++ [⟨number, secs, st, s.time⟩] ∧
          (let named (x : Feeder) := x.conn.sec ∈ secs
           ((∃ f x, t.blocks.feeder? f = some x ∧ named x ∧ x.state = .breakerFail) → st = .failed) ∧
           ((∀ f x, t.blocks.feeder? f = some x → named x → x.state = .held) → st = .granted) ∧
           ((∀ f x, t.blocks.feeder? f = some x → named x → x.state ≠ .breakerFail) →
             (∃ f x, t.blocks.feeder? f = some x ∧ named x ∧ x.state ≠ .held) → st = .pending)) ∧
          (∀ sec z, s.blocks.section? sec = some z →
            (sec ∉ secs → t.blocks.section? sec = some z) ∧
            (sec ∈ secs → ∃ y, t.blocks.section? sec = some y ∧ y.permits = z.permits + 1 ∧ y.state = .isolated ∧
              y.occupancy = z.occupancy ∧ y.inhibit = z.inhibit)) ∧
          ∀ f x z, s.blocks.feeder? f = some x → s.blocks.section? x.conn.sec = some z →
            let held : Feeder :=
              { x with
                state := .held, cause := some .permit, attempts := 0, backfed := 0, role := .none, openPending := false
                closeOntoFault := false, stateTimer := none, resetTimer := none, tripCoil := false, closeCoil := false
                testContactor := false
                pu := { x.pu with stale := none, step := if x.state = .closed then none else x.pu.step } }
            let tripped : Feeder :=
              { x with
                state := .tripping, cause := some .permit, stateTimer := some ⟨s.time, x.conn.settings.tTrip⟩
                resetTimer := none, closeOntoFault := false
                openPending := x.openPending && decide (x.state ≠ .closing)
                tripCoil := true, closeCoil := false, testContactor := false
                pu := { x.pu with stale := none, step := if x.state = .closed then none else x.pu.step } }
            (x.conn.sec ∉ secs ∨ 0 < z.permits → (∀ w ∈ s.blocks.sq.waiting, w.feeder ≠ f) → t.blocks.FeederIs f x) ∧
            (x.conn.sec ∈ secs → z.permits = 0 →
              (x.state = .breakerFail → t.blocks.FeederIs f x) ∧
              (x.state = .tripping → t.blocks.FeederIs f { x with cause := some .permit }) ∧
              (x.state = .closed ∨ x.state = .closing →
                (s.env.aux f = .closed → t.blocks.FeederIs f tripped) ∧
                (s.env.aux f = .opened → t.blocks.FeederIs f held)) ∧
              (x.state ≠ .breakerFail → x.state ≠ .tripping → x.state ≠ .closed → x.state ≠ .closing →
                t.blocks.FeederIs f held)))) ∧
    (number = 0 ∨ 65535 < number →
      exec (.release .works tag number) s = .next (s.answered .works tag .release .badArgument false .none)) ∧
    (1 ≤ number → number ≤ 65535 → (∀ q ∈ s.blocks.permits, q.number ≠ number) →
      exec (.release .works tag number) s = .next (s.answered .works tag .release .noSuch false .none)) ∧
    ∀ q ∈ s.blocks.permits, q.number = number → 1 ≤ number → number ≤ 65535 → RunAgrees s → PermitsAgree s →
      SectionsObeyed s →
      ∃ t, exec (.release .works tag number) s = .next t ∧ OnlyBlocks s t ∧
        EventFrame { (s.answered .works tag .release .done false .none).blocks with sections := t.blocks.sections }
          t.blocks ∧
        t.blocks.permits = s.blocks.permits.filter (fun r => decide (r.number ≠ number)) ∧
        (∀ sec z, s.blocks.section? sec = some z →
          (sec ∉ q.secs → t.blocks.section? sec = some z) ∧
          (sec ∈ q.secs → ∃ y, t.blocks.section? sec = some y ∧ y.permits = z.permits - 1 ∧
            y.occupancy = z.occupancy ∧ y.inhibit = z.inhibit ∧ (1 < z.permits → y = { z with permits := z.permits - 1 }) ∧
            (z.permits = 1 →
              ((∃ f x, s.blocks.feeder? f = some x ∧ x.conn.sec = sec ∧ x.state = .tripping ∧ s.env.aux f = .closed) →
                y.state = .energised) ∧
              ((∀ f x, s.blocks.feeder? f = some x → x.conn.sec = sec → x.state = .tripping → s.env.aux f = .opened) →
                y.state = .dead)))) ∧
        ∀ f x z, s.blocks.feeder? f = some x → s.blocks.section? x.conn.sec = some z →
          (x.conn.sec ∉ q.secs ∨ 1 < z.permits ∨ x.state = .breakerFail → t.blocks.FeederIs f x) ∧
          (x.conn.sec ∈ q.secs → z.permits = 1 →
            (x.state = .tripping → t.blocks.FeederIs f { x with cause := some .command }) ∧
            (x.state = .held → t.blocks.FeederIs f
              { x with
                state := .opened, attempts := 0, backfed := 0, role := .none, openPending := false
                closeOntoFault := false, stateTimer := none, resetTimer := none, tripCoil := false, closeCoil := false
                testContactor := false, pu := { x.pu with stale := none } }))

/-- READ_FEEDER, READ_SECTION, READ_PERMIT, READ_POINT and READ_VEHICLE reply DONE with the record as it stands and change
nothing else; a number out of range is refused BAD_ARGUMENT, one that names nothing NO_SUCH (R5, R89, R103, R107, R127, R129,
R157). That the head of the Drive Queue is reported at place 0 is the model's choice (log 44). -/
def Obligations.ReadingsReportTheRecords : Prop :=
  ∀ (tag n : Nat) (s : State), s.mode = .run → RunAgrees s →
    let left (y : Option Timer) := y.map fun z => z.setting - (s.time - z.start).toNat
    let vehicleState (v : Vehicle) : VehicleState := if v.lost = true then .lost else if v.faults = [] then .active else .faulted
    (Roomy .dispatch s →
      (16 ≤ n → exec (.readFeeder .dispatch tag n) s =
        .next (s.answered .dispatch tag .readFeeder .badArgument false .none)) ∧
      (n < 16 → s.blocks.feeder? n = none → exec (.readFeeder .dispatch tag n) s =
        .next (s.answered .dispatch tag .readFeeder .noSuch false .none)) ∧
      ∀ x z, s.blocks.feeder? n = some x → s.blocks.section? x.conn.sec = some z →
        exec (.readFeeder .dispatch tag n) s =
          .next (s.answered .dispatch tag .readFeeder .done false (.feeder
            { number := n, feeder := x, contact := s.env.aux n, stateLeft := left x.stateTimer, resetLeft := left x.resetTimer
              currentLatest := look s.blocks.sq.latest x.conn.currentCh
              busLatest := look s.blocks.sq.latest x.conn.busCh, lineLatest := look s.blocks.sq.latest x.conn.lineCh
              secState := z.state, leader := z.leader }))) ∧
    (∀ p, Roomy p s →
      (24 ≤ n → exec (.readSection p tag n) s = .next (s.answered p tag .readSection .badArgument false .none)) ∧
      (n < 24 → s.blocks.section? n = none → exec (.readSection p tag n) s =
        .next (s.answered p tag .readSection .noSuch false .none)) ∧
      ∀ z, s.blocks.section? n = some z →
        ∃ r, exec (.readSection p tag n) s = .next (s.answered p tag .readSection .done false (.sect r)) ∧
          r.record = z ∧ r.powered = (decide (z.state = .energised) && !z.lowVoltage) ∧
          r.feeders = ((List.range 16).filterMap fun f =>
            match s.blocks.feeder? f with
            | some y =>
              if y.conn.sec = n then some ⟨f, y.state, y.cause, y.role, s.env.aux f, y.liveArmed⟩ else none
            | none => none) ∧
          r.permits = (s.blocks.permits.filter fun q => decide (n ∈ q.secs)).map (·.number) ∧
          r.points = ((List.range 16).filterMap fun pt =>
            match s.blocks.point? pt with
            | some y => if y.frame.sec = n then some ⟨pt, s.env.position pt y.drive, y.drive⟩ else none
            | none => none) ∧
          (∀ i en, i < s.blocks.sq.length → look s.blocks.sq.slots i = some en → en.binding = some n →
            (∀ j y, j < i → look s.blocks.sq.slots j = some y → y.binding ≠ some n) →
            r.monitor = some ⟨i, en.crossing, look s.blocks.sq.latest en.channel⟩) ∧
          ((∀ i en, i < s.blocks.sq.length → look s.blocks.sq.slots i = some en → en.binding ≠ some n) →
            r.monitor = none)) ∧
    (Roomy .works s →
      (65535 < n → exec (.readPermit .works tag n) s =
        .next (s.answered .works tag .readPermit .badArgument false .none)) ∧
      (n = 0 → exec (.readPermit .works tag n) s =
        .next (s.answered .works tag .readPermit .done false (.permits s.blocks.permits))) ∧
      (1 ≤ n → n ≤ 65535 →
        ((∀ q ∈ s.blocks.permits, q.number ≠ n) → exec (.readPermit .works tag n) s =
          .next (s.answered .works tag .readPermit .noSuch false .none)) ∧
        ∀ q ∈ s.blocks.permits, q.number = n → (s.blocks.permits.map (·.number)).Nodup →
          ∃ lines, exec (.readPermit .works tag n) s =
              .next (s.answered .works tag .readPermit .done false (.permit q lines)) ∧
            lines.map (·.sec) = q.secs ∧
            ∀ x ∈ lines, ∀ z, s.blocks.section? x.sec = some z →
              x.state = z.state ∧ x.permits = z.permits ∧
                x.feeders = (List.range 16).filterMap fun f =>
                  match s.blocks.feeder? f with
                  | some y => if y.conn.sec = x.sec then some ⟨f, y.state, s.env.aux f⟩ else none
                  | none => none)) ∧
    (Roomy .traffic s →
      (16 ≤ n → exec (.readPoint .traffic tag n) s =
        .next (s.answered .traffic tag .readPoint .badArgument false .none)) ∧
      (n < 16 → s.blocks.point? n = none → exec (.readPoint .traffic tag n) s =
        .next (s.answered .traffic tag .readPoint .noSuch false .none)) ∧
      (∀ x z, s.blocks.point? n = some x → s.blocks.section? x.frame.sec = some z →
        exec (.readPoint .traffic tag n) s =
          .next (s.answered .traffic tag .readPoint .done false (.point
            { point := x, leftContact := s.env.leftContact n, rightContact := s.env.rightContact n
              position := s.env.position n x.drive, secState := z.state
              powered := decide (z.state = .energised) && !z.lowVoltage, holdLeft := left x.hold
              tPointLeft := left x.link.tPoint
              queuePlace := s.blocks.dlc.queue.findIdx? fun q => decide (q = n) }))) ∧
      (4095 < n → exec (.readVehicle .traffic tag n) s =
        .next (s.answered .traffic tag .readVehicle .badArgument false .none)) ∧
      (n = 0 → ∃ vs, exec (.readVehicle .traffic tag n) s =
          .next (s.answered .traffic tag .readVehicle .done false (.vehicles vs s.blocks.passes)) ∧
        vs.Perm (s.blocks.vt.vehicles.map fun v => ⟨v.id, vehicleState v, v.sec, v.unconfirmed⟩) ∧
        vs.Pairwise fun a b => a.id ≤ b.id) ∧
      (1 ≤ n → n ≤ 4095 →
        ((∀ v ∈ s.blocks.vt.vehicles, v.id ≠ n) → exec (.readVehicle .traffic tag n) s =
          .next (s.answered .traffic tag .readVehicle .noSuch false .none)) ∧
        ∀ v ∈ s.blocks.vt.vehicles, v.id = n → (s.blocks.vt.vehicles.map (·.id)).Nodup →
          ∀ net, s.net.network = some net → exec (.readVehicle .traffic tag n) s =
            .next (s.answered .traffic tag .readVehicle .done false (.vehicle
              { vehicle := v, state := vehicleState v
                silenceLeft :=
                  if v.lost = true then none else some (net.tSilence * 1000 - (s.time - v.heard).toNat)
                waiting := (s.blocks.passes.filter fun e => decide (e.kind = .telegram n)).length }))))

/-! ## Points -/

/-- RESERVE, CANCEL, FLUSH_POINT and CANCEL_VEHICLE: the refusals, the replies, and what remains of the queues; a point keeps its
count, flags and sequence bit. A reservation that is alone on a point with no drive is served at once by R113's table (R111 to
R113, R121, R122). That a position argument is 0 for LEFT and 1 for RIGHT is the model's choice (log 19). -/
def Obligations.ReservationsAreMadeAndRemoved : Prop :=
  ∀ (tag pt : Nat) (s : State), s.mode = .run → Roomy .traffic s →
    let reply (k : ReqKind) (c : ReplyCode) := s.answered .traffic tag k c false .none
    let leaves (i : Instr) (k : ReqKind) (res : ReplyResult) (x : Point) (names : List (Leg × Option Nat × Nat)) : Prop :=
      ∃ t y, exec i s = .next t ∧ AtPoint pt s t (s.answered .traffic tag k .done false res).blocks ∧
        t.blocks.point? pt = some y ∧ y.names = names ∧ y.standing = x.standing
    (∀ position vehicle rtag,
      let fits := pt < 16 ∧ position ≤ 1 ∧ vehicle ≤ 4095 ∧ 1 ≤ rtag ∧ rtag ≤ 65535
      let i : Instr := .reserve .traffic tag pt position vehicle rtag
      let leg : Leg := if position = 0 then .left else .right
      let name : Option Nat := if vehicle = 0 then none else some vehicle
      (¬ fits → exec i s = .next (reply .reserve .badArgument)) ∧
      (fits → s.blocks.point? pt = none → exec i s = .next (reply .reserve .noSuch)) ∧
      (fits → ∀ x, s.blocks.point? pt = some x →
        (rtag ∈ x.queue.map (·.rtag) → exec i s = .next (reply .reserve .badArgument)) ∧
        (rtag ∉ x.queue.map (·.rtag) → 4 ≤ x.queue.length → exec i s = .next (reply .reserve .queueFull)) ∧
        (rtag ∉ x.queue.map (·.rtag) → x.queue.length < 4 → x.Tidy →
          leaves i .reserve .none x (x.names ++ [(leg, name, rtag)])) ∧
        (x.queue = [] → x.drive ≠ .queued → x.drive ≠ .sending → x.drive ≠ .moving →
          ∃ t y, exec i s = .next t ∧ t.blocks.point? pt = some y ∧
            let waits (d : DriveState) :=
              y = { x with queue := [⟨leg, name, rtag, none, false⟩], drive := d } ∧ t.blocks.dlc = s.blocks.dlc
            (x.failed = true → y.drive = .failed ∧ y.queue = [⟨leg, name, rtag, none, false⟩]) ∧
            (x.failed = false → x.blocked = true → y.drive = .blocked ∧ y.queue = [⟨leg, name, rtag, none, false⟩]) ∧
            (x.failed = false → x.blocked = false → x.worksHeld = true →
              y.drive = .worksHeld ∧ y.queue = [⟨leg, name, rtag, none, false⟩]) ∧
            (x.Unstopped → s.env.position pt .idle = legPosition leg → ∀ net, s.net.network = some net →
              y = { x with
                queue := [⟨leg, name, rtag, some s.time, false⟩], drive := .idle
                hold := if net.tHold = 0 then none else some ⟨s.time, net.tHold * 1000⟩ } ∧
              t.blocks.dlc = s.blocks.dlc) ∧
            (x.Unstopped → s.env.position pt .idle ≠ legPosition leg →
              (x.countFault = true → waits .idle) ∧
              (x.countFault = false → 0 < x.count → waits .waitClear) ∧
              (x.countFault = false → x.count = 0 → s.blocks.powered x.frame.sec = false → waits .waitPower) ∧
              (x.countFault = false → x.count = 0 → s.blocks.powered x.frame.sec = true →
                let queued : Point :=
                  { x with
                    queue := [⟨leg, name, rtag, none, false⟩], drive := .queued, target := some leg, attempt := 0 }
                (x.link.work = .none →
                  y = { queued with link := { x.link with work := .throw, sends := 0 } } ∧
                    t.blocks.dlc = { s.blocks.dlc with queue := s.blocks.dlc.queue ++ [pt] }) ∧
                (x.link.work = .resync →
                  y = { queued with link := { x.link with work := .resyncThenThrow } } ∧
                    t.blocks.dlc = s.blocks.dlc)))))) ∧
    (∀ rtag,
      let fits := pt < 16 ∧ 1 ≤ rtag ∧ rtag ≤ 65535
      (¬ fits → exec (.cancel .traffic tag pt rtag) s = .next (reply .cancel .badArgument)) ∧
      (fits → s.blocks.point? pt = none → exec (.cancel .traffic tag pt rtag) s = .next (reply .cancel .noSuch)) ∧
      (fits → ∀ x, s.blocks.point? pt = some x →
        (rtag ∉ x.queue.map (·.rtag) → exec (.cancel .traffic tag pt rtag) s = .next (reply .cancel .noSuch)) ∧
        (rtag ∈ x.queue.map (·.rtag) → x.Tidy →
          leaves (.cancel .traffic tag pt rtag) .cancel .none x (x.names.filter fun n => decide (n.2.2 ≠ rtag))))) ∧
    (16 ≤ pt → exec (.flushPoint .traffic tag pt) s = .next (reply .flushPoint .badArgument)) ∧
    (pt < 16 → s.blocks.point? pt = none → exec (.flushPoint .traffic tag pt) s = .next (reply .flushPoint .noSuch)) ∧
    (∀ x, s.blocks.point? pt = some x →
      leaves (.flushPoint .traffic tag pt) .flushPoint (.count x.queue.length) x []) ∧
    ∀ v,
      (v = 0 ∨ 4095 < v →
        exec (.cancelVehicle .traffic tag v) s = .next (reply .cancelVehicle .badArgument)) ∧
      (1 ≤ v → v ≤ 4095 → (∀ q x, s.blocks.point? q = some x → x.Tidy) →
        ∃ t n, exec (.cancelVehicle .traffic tag v) s = .next t ∧ OnlyBlocks s t ∧
          PointEvents (s.answered .traffic tag .cancelVehicle .done false (.count n)).blocks t.blocks ∧
          n = ((List.range 16).map fun q =>
            match s.blocks.point? q with
            | some x => (x.queue.filter fun r => decide (r.vehicle = some v)).length
            | none => 0).sum ∧
          ∀ q,
            (s.blocks.point? q = none → t.blocks.point? q = none) ∧
            ∀ x, s.blocks.point? q = some x → ∃ y, t.blocks.point? q = some y ∧
              y.names = x.names.filter (fun m => decide (m.2.1 ≠ some v)) ∧ y.standing = x.standing ∧
              ((∀ r ∈ x.queue, r.vehicle ≠ some v) → y = x))

/-- HOLD_POINT, FREE_POINT and RESET_POINT set and clear the flags they own and keep the reservations, but that RESET_POINT
ends an overdue head; a hold that finds the drive unit at work replies ACCEPTED and lets it finish, and else stops the point
(R113, R120, R125, R126). -/
def Obligations.PointFlagsAreSetAndCleared : Prop :=
  ∀ (tag pt : Nat) (s : State), s.mode = .run →
    (16 ≤ pt →
      (Roomy .works s →
        exec (.holdPoint .works tag pt) s = .next (s.answered .works tag .holdPoint .badArgument false .none) ∧
          exec (.freePoint .works tag pt) s = .next (s.answered .works tag .freePoint .badArgument false .none)) ∧
      (Roomy .traffic s →
        exec (.resetPoint .traffic tag pt) s = .next (s.answered .traffic tag .resetPoint .badArgument false .none))) ∧
    (pt < 16 → s.blocks.point? pt = none →
      (Roomy .works s →
        exec (.holdPoint .works tag pt) s = .next (s.answered .works tag .holdPoint .noSuch false .none) ∧
          exec (.freePoint .works tag pt) s = .next (s.answered .works tag .freePoint .noSuch false .none)) ∧
      (Roomy .traffic s →
        exec (.resetPoint .traffic tag pt) s = .next (s.answered .traffic tag .resetPoint .noSuch false .none))) ∧
    ∀ x, s.blocks.point? pt = some x → x.Tidy →
      let atWork := x.drive = .sending ∨ x.drive = .moving
      (Roomy .works s →
        (∃ t y c, exec (.holdPoint .works tag pt) s = .next t ∧
          AtPoint pt s t (s.answered .works tag .holdPoint c false .none).blocks ∧ t.blocks.point? pt = some y ∧
          (atWork → (x.worksHeld = false → c = .accepted) ∧ y = { x with worksHeld := true }) ∧
          (x.worksHeld = true → c = .done) ∧
          (¬ atWork → c = .done ∧ y.names = x.names ∧ (∀ r ∈ y.queue, r.active = none) ∧
            y.standing = { x with worksHeld := true }.standing ∧
            y.drive = if x.failed = true then .failed else if x.blocked = true then .blocked else .worksHeld)) ∧
        ∃ t y, exec (.freePoint .works tag pt) s = .next t ∧
          AtPoint pt s t (s.answered .works tag .freePoint .done false .none).blocks ∧ t.blocks.point? pt = some y ∧
          y.names = x.names ∧ y.standing = { x with worksHeld := false }.standing ∧
          (atWork → y = { x with worksHeld := false }) ∧
          (¬ atWork → y.drive ≠ .worksHeld ∧ (x.failed = true → y.drive = .failed) ∧
            (x.failed = false → x.blocked = true → y.drive = .blocked))) ∧
      (Roomy .traffic s →
        ∃ t y, exec (.resetPoint .traffic tag pt) s = .next t ∧
          AtPoint pt s t (s.answered .traffic tag .resetPoint .done false .none).blocks ∧ t.blocks.point? pt = some y ∧
          y.names = (if (x.queue.head?.any fun r => r.overdue) = true then x.names.tail else x.names) ∧
          y.standing =
            { x with count := 0, countFault := false, blocked := false, failed := false }.standing ∧
          (atWork → y.drive = x.drive ∧ y.target = x.target) ∧
          (¬ atWork → y.drive ≠ .failed ∧ y.drive ≠ .blocked ∧ (x.worksHeld = true → y.drive = .worksHeld)))

/-- A detection contact moves the position: it ends a MOVING drive REACHED at its target, is left to the answer while SENDING,
turns an ACTIVE head that it belies back to WAITING, and withdraws a QUEUED point that it brings to its target (R109, R113,
R115, R116, R118). T_hold ends an ACTIVE head, or makes it overdue over a collector (R120); T_point brings one re-command and
then NOT_REACHED (R137); the BUSY delay puts its point back in the Drive Queue (R134). That an expiry before its time has no
effect on a point that is settled, as every event leaves it (R114), and that a re-command is withdrawn when the head no longer
waits for the target, are the model's choice (logs 4 and 18). -/
def Obligations.ContactsAndTimersMoveThePoint : Prop :=
  ∀ (pt : Nat) (s : State) (x : Point), s.mode = .run → s.blocks.point? pt = some x → pt < 16 → x.Tidy →
    let due (y : Option Timer) := ∃ z, y = some z ∧ z.setting ≤ (s.time - z.start).toNat
    (∀ (leg : Leg) (c : Contact),
      let pins : Pins :=
        match leg with
        | .left => { s.pins with leftDetection := s.pins.leftDetection.setIfInBounds pt c }
        | .right => { s.pins with rightDetection := s.pins.rightDetection.setIfInBounds pt c }
      let old := match leg with
        | .left => s.env.leftContact pt
        | .right => s.env.rightContact pt
      let other := match leg with
        | .left => s.env.rightContact pt
        | .right => s.env.leftContact pt
      let now : Option Leg :=
        if c = other then none
        else match leg, c with
          | .left, .closed => some .left
          | .left, .opened => some .right
          | .right, .closed => some .right
          | .right, .opened => some .left
      (c = old → exec (.detectionContactChange pt leg c) s = .next { s with pins := pins }) ∧
      (c ≠ old →
        ∃ t y, exec (.detectionContactChange pt leg c) s = .next t ∧ t = { s with pins := pins, blocks := t.blocks } ∧
          PointEvents s.blocks t.blocks ∧ OnlyPoint pt s.blocks t.blocks ∧ t.blocks.point? pt = some y ∧
          y.names = x.names ∧ y.standing = x.standing ∧
          (x.drive = .sending → y = x) ∧
          (x.drive = .moving → now ≠ x.target ∨ x.target = none → y = x) ∧
          (∀ l, x.drive = .moving → x.target = some l → now = some l →
            y.lastResult = some .reached ∧ y.drive ≠ .moving ∧ y.link.tPoint = none) ∧
          (∀ l r q, x.drive = .moving → x.target = some l → now = some l → x.queue = r :: q → r.active = none →
            r.position = l → x.Unstopped →
            y.drive = .idle ∧ y.queue = { r with active := some s.time } :: q ∧ y.lastResult = some .reached ∧
              y.target = none ∧ y.link.tPoint = none) ∧
          (∀ r q, x.drive = .idle → x.queue = r :: q → r.active ≠ none →
            s.env.position pt .idle = legPosition r.position →
            ∃ p q', y.queue = p :: q' ∧ p.active = none ∧ p.overdue = false ∧ y.hold = none) ∧
          (∀ l r q, x.drive = .queued → x.target = some l → now = some l → x.queue = r :: q → r.active = none →
            r.position = l → x.Unstopped →
            y.drive = .idle ∧ y.queue = { r with active := some s.time } :: q ∧ y.lastResult = some .withdrawn ∧
              y.target = none))) ∧
    (∀ r q, x.queue = r :: q → r.active ≠ none → due x.hold →
      ∃ t y, exec (.holdTimerExpiry pt) s = .next t ∧ AtPoint pt s t s.blocks ∧ t.blocks.point? pt = some y ∧
        y.standing = x.standing ∧
        (x.count = 0 → y.names = x.names.tail) ∧
        (0 < x.count → x.drive = .idle → x.Unstopped →
          y = { x with queue := { r with overdue := true } :: q, hold := none })) ∧
    (¬ due x.hold →
      (settlePoint s.env pt s.blocks = s.blocks ∨ x.drive = .sending ∨ x.drive = .moving ∨
          (x.drive = .idle ∧ x.Unstopped ∧ ∃ r q, x.queue = r :: q ∧ r.active ≠ none) →
        exec (.holdTimerExpiry pt) s = .next s) ∧
      ∃ t y, exec (.holdTimerExpiry pt) s = .next t ∧ AtPoint pt s t s.blocks ∧ t.blocks.point? pt = some y ∧
        y.names = x.names ∧ y.standing = x.standing) ∧
    (x.drive = .moving →
      (¬ due x.link.tPoint → exec (.pointTimerExpiry pt) s = .next s) ∧
      (due x.link.tPoint → x.attempt = 0 → x.countFault = false → x.count = 0 → x.Unstopped →
        s.blocks.powered x.frame.sec = true → x.queue.head?.map (·.position) = x.target →
        (∀ l, x.target = some l → s.env.position pt .idle ≠ legPosition l) →
        ∃ t, exec (.pointTimerExpiry pt) s = .next t ∧ AtPoint pt s t s.blocks ∧
          t.blocks.point? pt = some
            { x with
              attempt := 1, drive := .queued, link := { x.link with work := .throw, sends := 0, tPoint := none } } ∧
          t.blocks.dlc = { s.blocks.dlc with queue := s.blocks.dlc.queue ++ [pt] }) ∧
      (due x.link.tPoint → x.attempt ≠ 0 →
        ∃ t y, exec (.pointTimerExpiry pt) s = .next t ∧ AtPoint pt s t s.blocks ∧ t.blocks.point? pt = some y ∧
          y.drive = .failed ∧ y.failed = true ∧ y.lastResult = some .notReached ∧ y.target = none ∧
          y.link.tPoint = none ∧ y.names = x.names)) ∧
    (¬ due x.link.busyDelay → exec (.busyDelayExpiry pt) s = .next s) ∧
    (due x.link.busyDelay →
      exec (.busyDelayExpiry pt) s = .next (s.onBlocks fun _ b =>
        let c := b.setPoint pt { x with link := { x.link with busyDelay := none } }
        { c with dlc := { c.dlc with queue := c.dlc.queue ++ [pt] } }))

/-- With the link free, the head of the Drive Queue takes it: a RESYNC at once, a THROW if R117's check passes; refused, its retry
state is discarded and the next head takes the link. An answer or the 30 ms expiry ends the transaction: taken, BUSY, a refusal,
or no answer with a resend up to the third send; for a RESYNC synchronised or failed. An answer that fits no row counts as none.
Without a transaction, before the expiry, and at a late answer nothing happens (R117, R118, R131 to R136, R138). That a
transaction begins only at its own command, that an expiry acts only when due, and that the command says which answer is late,
are the model's choice (logs 4, 34 and 39); that the retry state is the send count and the bit sent is read in R117 as log 43
says. -/
def Obligations.DriveTransactionsRunAndEnd : Prop :=
  ∀ s : State, s.mode = .run →
    let d := s.blocks.dlc
    let due (z : Timer) := z.setting ≤ (s.time - z.start).toNat
    let throwBytes (pt : Nat) (l : Leg) (bit : Bool) : List Byte :=
      withCheck [BitVec.ofNat 8 pt, 1, if l = .left then 1 else 2, if bit = true then 1 else 0]
    let throwBegun (pt : Nat) (x : Point) (l : Leg) (q : List Nat) (t : State) : Prop :=
      OnlyBlocks s t ∧ OnlyPoint pt s.blocks t.blocks ∧
        t.blocks = { s.blocks with points := t.blocks.points, dlc := t.blocks.dlc, po := t.blocks.po } ∧
        Notified s.blocks.po t.blocks.po ∧
        t.blocks.point? pt = some
          { x with drive := .sending, link := { x.link with sends := x.link.sends + 1, bitSent := x.seqBit } } ∧
        t.blocks.dlc = { d with queue := q, link := some ⟨pt, false, throwBytes pt l x.seqBit, ⟨s.time, 30⟩⟩ }
    let clear (x : Point) := x.count = 0 ∧ s.blocks.powered x.frame.sec = true ∧ x.blocked = false ∧ x.worksHeld = false ∧
      x.countFault = false
    (d.link ≠ none ∨ d.rest ≠ none ∨ d.queue = [] → exec .driveTransactionStart s = .next s) ∧
    (∀ bytes, exec (.driveAnswer .late bytes) s = .next s) ∧
    (d.link = none → (∀ mark bytes, exec (.driveAnswer mark bytes) s = .next s) ∧
      exec .driveAnswerExpiry s = .next s) ∧
    (∀ fl, d.link = some fl → ¬ due fl.expiry → exec .driveAnswerExpiry s = .next s) ∧
    (∀ pt q x, d.link = none → d.rest = none → d.queue = pt :: q → s.blocks.point? pt = some x →
      (x.link.work = .resync ∨ x.link.work = .resyncThenThrow →
        exec .driveTransactionStart s = .next (s.onBlocks fun e b =>
          let c := b.setPoint pt { x with link := { x.link with sends := x.link.sends + 1, bitSent := false } }
          { c with dlc :=
            { d with queue := q, link := some ⟨pt, true, withCheck [BitVec.ofNat 8 pt, 2], ⟨e.time, 30⟩⟩ } })) ∧
      (∀ r rs, x.link.work = .throw → x.Tidy → x.queue = r :: rs → r.active = none → x.target = some r.position → clear x →
        ∃ t, exec .driveTransactionStart s = .next t ∧ throwBegun pt x r.position q t) ∧
      (x.link.work = .throw → x.Tidy → ¬ clear x ∨ x.queue = [] → pt ∉ q →
        let refused (y : Point) : Prop :=
          y.lastResult = some .withdrawn ∧ y.target = none ∧ y.drive ≠ .sending ∧ y.names = x.names ∧
            y.standing = x.standing ∧
            y.link = { x.link with work := .none, sends := 0, bitSent := false, tPoint := none }
        (q = [] → ∃ t y, exec .driveTransactionStart s = .next t ∧ AtPoint pt s t s.blocks ∧
          t.blocks.point? pt = some y ∧ refused y ∧ t.blocks.dlc.queue = []) ∧
        ∀ p2 q2 x2, q = p2 :: q2 → s.blocks.point? p2 = some x2 →
          let next (resync bit : Bool) (bytes : List Byte) : Prop :=
            ∃ t y, exec .driveTransactionStart s = .next t ∧ OnlyBlocks s t ∧ t.blocks.point? pt = some y ∧ refused y ∧
              t.blocks.point? p2 = some
                { x2 with
                  drive := if resync = true then x2.drive else .sending
                  link := { x2.link with sends := x2.link.sends + 1, bitSent := bit } } ∧
              t.blocks.dlc = { d with queue := q2, link := some ⟨p2, resync, bytes, ⟨s.time, 30⟩⟩ }
          (x2.link.work = .resync ∨ x2.link.work = .resyncThenThrow →
            next true false (withCheck [BitVec.ofNat 8 p2, 2])) ∧
          ∀ r rs, x2.link.work = .throw → x2.Tidy → x2.queue = r :: rs → r.active = none → x2.target = some r.position →
            clear x2 → next false x2.seqBit (throwBytes p2 r.position x2.seqBit))) ∧
    ∀ fl x, d.link = some fl → s.blocks.point? fl.point = some x → x.Tidy →
      let pt := fl.point
      let bit : Byte := if x.link.bitSent = true then 1 else 0
      let answer (a b : Byte) := withCheck [BitVec.ofNat 8 pt, a, b]
      let ends (i : Instr) (p : Point → State → Prop) : Prop :=
        ∃ t y, exec i s = .next t ∧ OnlyBlocks s t ∧ OnlyPoint pt s.blocks t.blocks ∧ t.blocks.point? pt = some y ∧
          y.names = x.names ∧ p y t
      let unanswered (i : Instr) (unfit : Byte → Byte → Prop) : Prop :=
        (i = .driveAnswerExpiry ∧ due fl.expiry) ∨ (∃ bytes, i = .driveAnswer .framingError bytes) ∨
          (∃ bytes, i = .driveAnswer .sound bytes ∧
            (checkOk bytes = false ∨ bytes.length ≠ 5 ∨ bytes.head? ≠ some (BitVec.ofNat 8 pt))) ∨
          ∃ a b, i = .driveAnswer .sound (answer a b) ∧ (a = 0 ∨ 5 < a.toNat ∨ 1 < b.toNat ∨ unfit a b)
      let failed (r : DriveResult) (y : Point) (t : State) : Prop :=
        y.lastResult = some r ∧ y.failed = true ∧ y.drive = .failed ∧ y.target = none ∧ y.seqBit = x.seqBit ∧
          t.blocks.dlc.link = none
      (fl.resync = false → x.drive = .sending →
        (∀ a, a = 1 ∨ a = 2 →
          (s.blocks.powered x.frame.sec = false → ends (.driveAnswer .sound (answer a bit)) fun y t =>
            y.lastResult = some .powerLost ∧ y.target = none ∧ y.seqBit = !x.link.bitSent ∧ t.blocks.dlc.link = none) ∧
          (s.blocks.powered x.frame.sec = true →
            (∀ l, x.target = some l → s.env.position pt .moving = legPosition l →
              ends (.driveAnswer .sound (answer a bit)) fun y t =>
                y.lastResult = some .reached ∧ y.drive ≠ .sending ∧ y.drive ≠ .moving ∧ y.seqBit = !x.link.bitSent ∧
                  t.blocks.dlc.link = none) ∧
            ((∀ l, x.target = some l → s.env.position pt .moving ≠ legPosition l) → ∀ net, s.net.network = some net →
              ends (.driveAnswer .sound (answer a bit)) fun y t =>
                y = { x with
                  drive := .moving, seqBit := !x.link.bitSent
                  link := { x.link with work := .none, tPoint := some ⟨s.time, net.tPoint⟩ } } ∧
                t.blocks.dlc = { d with link := none }))) ∧
        (∀ b, b = 0 ∨ b = 1 →
          (x.link.sends < 3 → ends (.driveAnswer .sound (answer 3 b)) fun y t =>
            y = { x with link := { x.link with busyDelay := some ⟨s.time, 50⟩ } } ∧
              t.blocks.dlc = { d with link := none }) ∧
          (3 ≤ x.link.sends → ends (.driveAnswer .sound (answer 3 b)) (failed .busy)) ∧
          ends (.driveAnswer .sound (answer 4 b)) (failed .refusedLocal) ∧
          ends (.driveAnswer .sound (answer 5 b)) (failed .jammed)) ∧
        ∀ i, unanswered i (fun a b => (a = 1 ∨ a = 2) ∧ b ≠ bit) →
          (3 ≤ x.link.sends → ends i (failed .noAnswer)) ∧
          (x.link.sends < 3 → ∀ r rs, x.queue = r :: rs → r.active = none → x.target = some r.position → clear x →
            ∃ t, exec i s = .next t ∧ throwBegun pt x r.position d.queue t) ∧
          (x.link.sends < 3 → ¬ clear x ∨ x.queue = [] → ends i fun y t =>
            y.lastResult = some .withdrawn ∧ y.target = none ∧ y.link.sends = 0 ∧ y.link.bitSent = false ∧
              (x.link.work = .throw → y.link.work = .none) ∧ t.blocks.dlc.link = none)) ∧
      (fl.resync = true →
        (ends (.driveAnswer .sound (answer 1 bit)) fun y t =>
          y.link.sync = .synchronised ∧ y.seqBit = x.seqBit ∧ t.blocks.dlc.link = none) ∧
        (∀ b, b = 0 ∨ b = 1 →
          (x.link.sends < 3 → ends (.driveAnswer .sound (answer 3 b)) fun y t =>
            y.link.busyDelay = some ⟨s.time, 50⟩ ∧ y.link.sync = x.link.sync ∧ t.blocks.dlc.link = none) ∧
          (3 ≤ x.link.sends → ends (.driveAnswer .sound (answer 3 b)) fun y t =>
            failed .busy y t ∧ y.link.sync = .unsynchronised ∧ y.link.work = .none)) ∧
        ∀ i, unanswered i (fun a b => a = 2 ∨ a = 4 ∨ a = 5 ∨ (a = 1 ∧ b ≠ bit)) →
          (x.link.sends < 3 → ends i fun y t =>
            y.link.sync = x.link.sync ∧
              t.blocks.dlc.link = some ⟨pt, true, withCheck [BitVec.ofNat 8 pt, 2], ⟨s.time, 30⟩⟩) ∧
          (3 ≤ x.link.sends → ends i fun y t =>
            failed .noAnswer y t ∧ y.link.sync = .unsynchronised ∧ y.link.work = .none))

/-- Whatever command puts a new THROW on the drive link, it is the throw of a point whose collector count is 0, whose section is
powered, which no block, hold or count fault stops, and whose head waits for the target that the message names; the point is
then SENDING (R117, R131). -/
def Obligations.ThrowsAreSentOnlyWhenClear : Prop :=
  ∀ (i : Instr) (s t : State) (fl : DriveFlight), PointsBounded s → exec i s = .next t →
    t.blocks.dlc.link = some fl → s.blocks.dlc.link ≠ some fl → fl.resync = false →
    ∃ y r q, t.blocks.point? fl.point = some y ∧ y.drive = .sending ∧ y.count = 0 ∧
      t.blocks.powered y.frame.sec = true ∧ y.blocked = false ∧ y.worksHeld = false ∧ y.countFault = false ∧
      y.queue = r :: q ∧ r.active = none ∧ y.target = some r.position ∧
      fl.bytes = withCheck
        [BitVec.ofNat 8 fl.point, 1, if r.position = .left then 1 else 2, if y.seqBit = true then 1 else 0] ∧
      fl.expiry = ⟨s.time, 30⟩

/-! ## Detectors, passes and vehicles -/

/-- A detector contact that closes second, the other having closed alone before it, is a pass from that other side; a closing
with the other open, one at the same line time, and every opening give none (R141). In RUN a pass of a loaded detector moves
the vehicle of the oldest matching telegram or waits in the Pass List (R144, R146), and at a point counts a collector in or
out, releasing an ACTIVE head at a facing exit (R110, R119); a full list first forces its oldest entry to expire by its kind
(R146). The first entry that has reached T_match expires by its kind (R147). A vehicle with LEAKAGE that moves trips its new
section where the network says so (R174). What two closings at one line time leave, that an expiry before its time has no
effect, and that contacts are followed in CONFIG and for a detector that is not loaded, is the model's choice (logs 4, 25 and
28). -/
def Obligations.PassesAreFormedAndMatched : Prop :=
  (∀ (det : Nat) (side : Side) (s : State), det < 48 →
    let moved (v : Nat) (z : Vehicle) : Vt :=
      { s.blocks.vt with vehicles := s.blocks.vt.vehicles.map fun y => if y.id = v then z else y }
    let d : Dir := if side = .b then .ab else .ba
    let own := look (if side = .a then s.pins.detA else s.pins.detB) det
    let other := look (if side = .a then s.pins.detB else s.pins.detA) det
    let set (side : Side) (c : Option ClosedContact) (p : Pins) : Pins :=
      match side with
      | .a => { p with detA := p.detA.setIfInBounds det c }
      | .b => { p with detB := p.detB.setIfInBounds det c }
    let opposite : Side := if side = .a then .b else .a
    let single := set side (some ⟨s.time, false⟩) s.pins
    let close : Instr := .detectorContactClosing det side
    exec (.detectorContactOpening det side) s = .next { s with pins := set side none s.pins } ∧
    (own ≠ none → exec close s = .next s) ∧
    (own = none → other = none → exec close s = .next { s with pins := set side (some ⟨s.time, true⟩) s.pins }) ∧
    ∀ o, own = none → other = some o →
      (o.since = s.time → exec close s = .next { s with pins := set opposite (some { o with otherOpen := false }) single }) ∧
      (o.since ≠ s.time → (o.otherOpen = false ∨ s.mode = .config ∨ look s.net.detectors det = none) →
        exec close s = .next { s with pins := single }) ∧
      ∀ r, o.since ≠ s.time → o.otherOpen = true → s.mode = .run → look s.net.detectors det = some r →
        let matching (e : PassEntry) := e.kind ≠ .contact ∧ e.det = det ∧ e.dir = d
        ∃ t, exec close s = .next t ∧ t = { s with pins := single, blocks := t.blocks } ∧
          (∀ a v b tm, s.blocks.passes = a ++ ⟨.telegram v, det, d, tm⟩ :: b → (∀ e ∈ a, ¬ matching e) →
            t.blocks.passes = a ++ b ∧
              (∀ x ∈ s.blocks.vt.vehicles, x.id = v → (s.blocks.vt.vehicles.map (·.id)).Nodup →
                t.blocks.vt = moved v
                  { x with
                    sec := if d = .ab then r.sideB else r.sideA, lastPass := some (det, d), unconfirmed := false } ∧
                (RunAgrees s → PermitsAgree s → SectionsObeyed s →
                  MoveActs s t.blocks x (if d = .ab then r.sideB else r.sideA)))) ∧
          ((∀ e ∈ s.blocks.passes, ¬ matching e) →
            (s.blocks.passes.length < 32 →
              t.blocks.passes = s.blocks.passes ++ [⟨.contact, det, d, s.time⟩] ∧
              PointEvents { s.blocks with passes := t.blocks.passes } t.blocks ∧
              (s.env.roleOf det = none → t.blocks.points = s.blocks.points) ∧
              ∀ pt role x, s.env.roleOf det = some (pt, role) → s.blocks.point? pt = some x → x.Tidy →
                OnlyPoint pt s.blocks t.blocks ∧
                ∃ y, t.blocks.point? pt = some y ∧
                  let released := (role = .leftExit ∧ d = x.frame.leftDir) ∨ (role = .rightExit ∧ d = x.frame.rightDir)
                  (∀ h q, x.queue = h :: q →
                    (released → h.active ≠ none → y.names = x.names.tail) ∧
                    (¬ released ∨ h.active = none → h.overdue = false ∨ 0 < y.count → y.names = x.names) ∧
                    (¬ released → h.overdue = true → y.count = 0 → y.names = x.names.tail)) ∧
                  (x.queue = [] → y.queue = [])) ∧
            (∀ old rest, s.blocks.passes = old :: rest → 32 ≤ s.blocks.passes.length → old.kind = .contact →
              t.blocks.passes = rest ++ [⟨.contact, det, d, s.time⟩] ∧ t.blocks.vt = s.blocks.vt) ∧
            (∀ u od odir tm rest, s.blocks.passes = ⟨.telegram u, od, odir, tm⟩ :: rest → 32 ≤ s.blocks.passes.length →
              t.blocks.passes = rest ++ [⟨.contact, det, d, s.time⟩] ∧
              ∀ ro, look s.net.detectors od = some ro → (s.blocks.vt.vehicles.map (·.id)).Nodup →
                ∀ x ∈ s.blocks.vt.vehicles, x.id = u → t.blocks.vt = moved u
                  { x with
                    sec := if odir = .ab then ro.sideB else ro.sideA, lastPass := some (od, odir)
                    unconfirmed := true })) ∧
          ∀ pt role x, s.env.roleOf det = some (pt, role) → s.blocks.point? pt = some x →
            let enters := (role = .entry ∧ d = x.frame.entryDir) ∨ (role = .leftExit ∧ d ≠ x.frame.leftDir) ∨
              (role = .rightExit ∧ d ≠ x.frame.rightDir)
            ∃ y, t.blocks.point? pt = some y ∧
              (enters → y.count = min 3 (x.count + 1) ∧ y.countFault = (x.countFault || decide (x.count = 3))) ∧
              (¬ enters → y.count = x.count - 1 ∧ y.countFault = (x.countFault || decide (x.count = 0)))) ∧
  ∀ (s : State) (net : NetRecord), s.mode = .run → s.net.network = some net →
    let moved (v : Nat) (z : Vehicle) : Vt :=
      { s.blocks.vt with vehicles := s.blocks.vt.vehicles.map fun y => if y.id = v then z else y }
    let due (e : PassEntry) := net.tMatch ≤ (s.time - e.time).toNat
    ((∀ e ∈ s.blocks.passes, ¬ due e) → exec .passEntryExpiry s = .next s) ∧
    ∀ a e b, s.blocks.passes = a ++ e :: b → (∀ x ∈ a, ¬ due x) → due e →
      (e.kind = .contact → exec .passEntryExpiry s = .next (s.onBlocks fun _ c =>
        { c with
          passes := a ++ b
          po := c.po.placeOn ⟨s.time, .unidentifiedPass e.det e.dir e.time false⟩ [.traffic] })) ∧
      ∀ v r, e.kind = .telegram v → look s.net.detectors e.det = some r →
        ∃ t, exec .passEntryExpiry s = .next t ∧ OnlyBlocks s t ∧ t.blocks.passes = a ++ b ∧
          ∀ x ∈ s.blocks.vt.vehicles, x.id = v → (s.blocks.vt.vehicles.map (·.id)).Nodup →
            t.blocks.vt = moved v
              { x with
                sec := if e.dir = .ab then r.sideB else r.sideA, lastPass := some (e.det, e.dir), unconfirmed := true } ∧
            (RunAgrees s → PermitsAgree s → SectionsObeyed s →
              MoveActs s t.blocks x (if e.dir = .ab then r.sideB else r.sideA))

/-- VT takes the telegram at the head of the Receive Queue: the vehicle is heard, found again if LOST, or created, with an
eviction of the longest silent LOST vehicle where the table is full; a POS goes to the Pass List, a FLT to the fault list with
its acknowledgement, a CLR from it. A new DEWIRE or LEAKAGE inhibits the vehicle's section, whose feeders wait while its count
is above 0: it rises and falls with a FLT, a CLR, a CLEAR_FAULT, a RETIRE and a move by a POS; a DEWIRE at a point blocks it,
also where its FLT creates the record, a LEAKAGE trips the section where the network says so, at its report and at a move
(R82, R95, R124, R173, R174). PT_BLOCK and FLT_ACK are placed in the Transmit Queue, and TX_OVERFLOW is noticed once (R167,
R175). A silence that has run out loses the vehicle; RETIRE removes it with its passes and reservations, CLEAR_FAULT removes
its fault entries (R145, R149 to R151, R155, R156, R170 to R172, R176, R177). That a silence before its time changes nothing
is the model's choice (log 4). -/
def Obligations.VehiclesAreHeardAndForgotten : Prop :=
  ∀ s : State, s.mode = .run → (s.blocks.vt.vehicles.map (·.id)).Nodup →
    let vs := s.blocks.vt.vehicles
    let put (v : Nat) (z : Vehicle) : List Vehicle := vs.map fun y => if y.id = v then z else y
    let only (v : Nat) (z : Vehicle) : Vt := { s.blocks.vt with vehicles := put v z }
    (s.blocks.rlc.rxQueue = [] → exec .vtTakeTelegram s = .next s) ∧
    (∀ m ms, s.blocks.rlc.rxQueue = m :: ms →
      ∃ t, exec .vtTakeTelegram s = .next t ∧ OnlyBlocks s t ∧
        t.blocks.rlc =
          { s.blocks.rlc with rxQueue := ms, txQueue := t.blocks.rlc.txQueue, txOverflow := t.blocks.rlc.txOverflow } ∧
        (∀ v det d, m.body = .pos v det d →
          let new : PassEntry := ⟨.telegram v, det, d, m.arrival⟩
          let same (e : PassEntry) := e.kind = .telegram v ∧ e.det = det ∧ e.dir = d
          let contact (e : PassEntry) := e.kind = .contact ∧ e.det = det ∧ e.dir = d
          (∀ x ∈ vs, x.id = v →
            let heard : Vehicle := { x with heard := m.arrival, lost := false }
            (look s.net.detectors det = none →
              t.blocks.passes = s.blocks.passes ∧ t.blocks.vt = only v heard) ∧
            ∀ r, look s.net.detectors det = some r →
              (∀ a e b, s.blocks.passes = a ++ e :: b → contact e → (∀ y ∈ a, ¬ contact y) →
                t.blocks.passes = a ++ b ∧
                  t.blocks.vt = only v
                    { heard with
                      sec := if d = .ab then r.sideB else r.sideA, lastPass := some (det, d), unconfirmed := false } ∧
                  (RunAgrees s → PermitsAgree s → SectionsObeyed s →
                    let into := if d = .ab then r.sideB else r.sideA
                    MoveActs s t.blocks x into ∧
                      (x.sec ≠ into → VehicleLeaves s t.blocks x ∧ VehicleEnters s t.blocks x into))) ∧
              ((∀ e ∈ s.blocks.passes, ¬ contact e) →
                (∀ a e b, s.blocks.passes = a ++ e :: b → same e → (∀ y ∈ a ++ b, ¬ same y) →
                  t.blocks.passes = a ++ b ++ [new] ∧ t.blocks.vt = only v heard) ∧
                ((∀ e ∈ s.blocks.passes, ¬ same e) → s.blocks.passes.length < 32 →
                  t.blocks.passes = s.blocks.passes ++ [new] ∧
                    t.blocks.vt = only v heard))) ∧
          ((∀ x ∈ vs, x.id ≠ v) → vs.length < 64 → (look s.net.detectors det).isSome = true →
            (∀ e ∈ s.blocks.passes, ¬ contact e ∧ ¬ same e) → s.blocks.passes.length < 32 →
            t.blocks.passes = s.blocks.passes ++ [new] ∧
              t.blocks.vt = ⟨vs ++ [⟨v, false, none, none, m.arrival, false, []⟩], s.blocks.vt.fullArmed⟩)) ∧
        (∀ v code detail det, m.body = .flt v code detail det →
          let named : Option Nat := if (look s.net.detectors det).isSome = true then some det else none
          let entry : FaultEntry := ⟨code, detail, named, m.arrival, m.arrival⟩
          let ack : TxTelegram := .fltAck v code
          let full := Overflows s.blocks.rlc ack ∧ s.blocks.rlc.txOverflow = false
          let elsewhere := code ≠ .dewire ∨ look s.net.detectors det = none ∨ s.env.roleOf det = none
          (∀ x ∈ vs, x.id = v →
            t.blocks.vt = only v
              { x with
                heard := m.arrival, lost := false
                faults :=
                  if x.faults.any (fun y => decide (y.code = code)) = true then
                    x.faults.map fun y => if y.code = code then { y with last := m.arrival } else y
                  else x.faults ++ [entry] } ∧
            (s.blocks.rlc.txAck = true → .fltAck v code ∈ t.blocks.rlc.txQueue ∨ t.blocks.rlc.txOverflow = true) ∧
            (RunAgrees s → PermitsAgree s → SectionsObeyed s → (∀ y ∈ x.faults, y.code ≠ code) →
              (∀ net, s.net.network = some net → FaultActs s t.blocks x code net.leakage) ∧
              (code = .dewire → PointBlocks s t.blocks det v) ∧ (elsewhere → HandedOver s ack t.blocks)) ∧
            ((∃ y ∈ x.faults, y.code = code) → HandedOver s ack t.blocks ∧
              (x.lost = false → (¬ full → t.blocks.po = s.blocks.po) ∧
                (full → t.blocks.po = s.blocks.po.placeOn ⟨s.time, .txOverflow ack⟩ [.traffic])))) ∧
          ((∀ x ∈ vs, x.id ≠ v) → vs.length < 64 →
            t.blocks.vt = ⟨vs ++ [⟨v, false, none, none, m.arrival, false, [entry]⟩], s.blocks.vt.fullArmed⟩ ∧
              t.blocks.feeders = s.blocks.feeders ∧ (code = .dewire → PointBlocks s t.blocks det v) ∧
              (elsewhere → HandedOver s ack t.blocks))) ∧
        (∀ v code, m.body = .clr v code →
          t.blocks.passes = s.blocks.passes ∧
          (∀ x ∈ vs, x.id = v → t.blocks.vt = only v
            { x with
              heard := m.arrival, lost := false
              faults := x.faults.filter fun y => decide (code ≠ none ∧ code ≠ some y.code) } ∧
            (RunAgrees s → (∃ y ∈ x.faults, y.Inhibits) →
              (∀ y ∈ x.faults, y.Inhibits → code = none ∨ code = some y.code) →
              InhibitFalls s t.blocks x.sec 0)) ∧
          ((∀ x ∈ vs, x.id ≠ v) → t.blocks = { s.blocks with rlc := { s.blocks.rlc with rxQueue := ms } })) ∧
        (64 ≤ vs.length → (∀ x ∈ vs, x.id ≠ m.body.vehicle) → m.body.kind ≠ .clr →
          ((∀ x ∈ vs, x.lost = false) →
            t.blocks.vt = { s.blocks.vt with fullArmed := false } ∧ t.blocks.passes = s.blocks.passes) ∧
          ∀ x ∈ vs, x.lost = true →
            (∀ y ∈ vs, y.lost = true →
              (s.time - y.heard).toNat < (s.time - x.heard).toNat ∨
                ((s.time - y.heard).toNat = (s.time - x.heard).toNat ∧ x.id ≤ y.id)) →
            t.blocks.vt.vehicles.map (·.id) = (vs.map (·.id)).filter (fun n => decide (n ≠ x.id)) ++ [m.body.vehicle])) ∧
    (∀ v net, s.net.network = some net →
      ((∀ x ∈ vs, x.id = v → x.lost = true ∨ (s.time - x.heard).toNat < net.tSilence * 1000) →
        exec (.silenceExpiry v) s = .next s) ∧
      ∀ x ∈ vs, x.id = v → x.lost = false → net.tSilence * 1000 ≤ (s.time - x.heard).toNat →
        exec (.silenceExpiry v) s = .next (s.onBlocks fun _ b =>
          { b with
            vt := { vehicles := put v { x with lost := true }, fullArmed := true }
            po := b.po.placeOn ⟨s.time, .vehicleLost v x.sec x.heard⟩ [.traffic] })) ∧
    ∀ tag v, Roomy .traffic s →
      (v = 0 ∨ 4095 < v → exec (.retire .traffic tag v) s = .next (s.answered .traffic tag .retire .badArgument false .none)) ∧
      (1 ≤ v → v ≤ 4095 → (∀ x ∈ vs, x.id ≠ v) →
        exec (.retire .traffic tag v) s = .next (s.answered .traffic tag .retire .noSuch false .none)) ∧
      (∀ x ∈ vs, x.id = v → 1 ≤ v → v ≤ 4095 →
        ∃ t n, exec (.retire .traffic tag v) s = .next t ∧ OnlyBlocks s t ∧
          Notified (s.answered .traffic tag .retire .done false (.count n)).blocks.po t.blocks.po ∧
          t.blocks.vt = ⟨vs.filter fun y => decide (y.id ≠ v), true⟩ ∧
          t.blocks.passes = s.blocks.passes.filter (fun e => decide (e.kind ≠ .telegram v)) ∧
          (RunAgrees s → VehicleLeaves s t.blocks x) ∧
          n = ((List.range 16).map fun q =>
            match s.blocks.point? q with
            | some y => (y.queue.filter fun r => decide (r.vehicle = some v)).length
            | none => 0).sum ∧
          ∀ q y, s.blocks.point? q = some y → y.Tidy → ∃ z, t.blocks.point? q = some z ∧
            z.names = y.names.filter fun m => decide (m.2.1 ≠ some v)) ∧
      ∀ code,
        (5 < code ∨ v = 0 ∨ 4095 < v → exec (.clearFault .traffic tag v code) s =
          .next (s.answered .traffic tag .clearFault .badArgument false .none)) ∧
        (code ≤ 5 → 1 ≤ v → v ≤ 4095 → (∀ x ∈ vs, x.id ≠ v) → exec (.clearFault .traffic tag v code) s =
          .next (s.answered .traffic tag .clearFault .noSuch false .none)) ∧
        ∀ x ∈ vs, x.id = v → code ≤ 5 → 1 ≤ v → v ≤ 4095 →
          let gone (y : FaultEntry) := code = 0 ∨ y.code.number = code
          (code ≠ 0 → (∀ y ∈ x.faults, ¬ gone y) → exec (.clearFault .traffic tag v code) s =
            .next (s.answered .traffic tag .clearFault .noSuch false .none)) ∧
          (code = 0 ∨ ¬ (∀ y ∈ x.faults, ¬ gone y) →
            ∃ t, exec (.clearFault .traffic tag v code) s = .next t ∧ OnlyBlocks s t ∧
              Notified (s.answered .traffic tag .clearFault .done false
                (.count (x.faults.filter fun y => decide (gone y)).length)).blocks.po t.blocks.po ∧
              t.blocks.vt = only v { x with faults := x.faults.filter fun y => decide (¬ gone y) } ∧
              t.blocks.passes = s.blocks.passes ∧
              (RunAgrees s → (∃ y ∈ x.faults, y.Inhibits) → (∀ y ∈ x.faults, y.Inhibits → gone y) →
                InhibitFalls s t.blocks x.sec 0))

/-! ## Radio -/

/-- RADIO_ENABLE, FLUSH_RADIO and ALL_STOP; a byte opens or joins a telegram; a gap of three byte times judges the telegram it
ends by R161's cases, into the Receive Queue, the bad count or nothing; a transmission starts with ALL_STOP before the queue
when every condition holds, and its end starts the gap after it. The eighth bad telegram in a row gives RADIO_DEGRADED with
the case that judged it, a good one that finds the Receive Queue full RADIO_OVERRUN. Each enable is followed by its
acknowledge where the link stands between telegrams (R159 to R166, R168, R169). That the receiver stands in a gap at reset,
that a gap before its time has no effect, that an enable flag above 1 is out of its range, that a request starts no
transmission itself, and that the command says when a transmission ends, is the model's choice (logs 2, 4, 21, 34 and 47). -/
def Obligations.RadioTelegramsAreTakenAndSent : Prop :=
  ∀ (s : State) (net : NetRecord), s.mode = .run → s.net.network = some net →
    let r := s.blocks.rlc
    let radio (x : Rlc) : State := s.onBlocks fun _ b => { b with rlc := x }
    let followed (x : Rlc) : Rlc :=
      if x.sending.isSome = true then x
      else if x.txAck = true ∧ x.txEnable = false then
        { x with txAck := false, txQueue := [], allStop := false, txOverflow := false }
      else { x with txAck := x.txEnable }
    let group : Byte := BitVec.ofNat 8 net.radioGroup
    let sent (t : TxTelegram) : List Byte :=
      match t with
      | .secDead sec st => withCheck [group, 16, BitVec.ofNat 8 sec, if st = .isolated then 2 else 1]
      | .secLive sec => withCheck [group, 17, BitVec.ofNat 8 sec, 0]
      | .ptBlock pt det => withCheck [group, 18, BitVec.ofNat 8 pt, BitVec.ofNat 8 det]
      | .fltAck v c => withCheck [group, 19, BitVec.ofNat 8 (v / 256), BitVec.ofNat 8 v, BitVec.ofNat 8 c.number]
      | .allStop => withCheck [group, 20, 85, 170]
    (∀ tag, Roomy .traffic s →
      (∀ rx tx,
        (1 < rx ∨ 1 < tx → exec (.radioEnable .traffic tag rx tx) s =
          .next (s.answered .traffic tag .radioEnable .badArgument false .none)) ∧
        (rx ≤ 1 → tx ≤ 1 →
          let set : Rlc :=
            { r with
              rxEnable := decide (rx = 1), txEnable := decide (tx = 1)
              rxAck := if r.inGap = true then decide (rx = 1) else r.rxAck }
          exec (.radioEnable .traffic tag rx tx) s =
            .next ((s.answered .traffic tag .radioEnable .done false .none).onBlocks fun _ b =>
              { b with rlc := followed set }))) ∧
      exec (.flushRadio .traffic tag) s =
        .next ((s.answered .traffic tag .flushRadio .done false (.count r.rxQueue.length)).onBlocks fun _ b =>
          { b with rlc := { r with rxQueue := [], overrun := false, overrunCount := 0 } })) ∧
    (∀ tag p, p = .dispatch ∨ p = .traffic → Roomy p s →
      (r.txAck = false → exec (.allStop p tag) s = .next (s.answered p tag .allStop .wrongState false .none)) ∧
      (r.txAck = true → exec (.allStop p tag) s =
        .next ((s.answered p tag .allStop .accepted false .none).onBlocks fun _ b =>
          { b with rlc := { r with allStop := true } }))) ∧
    (∀ byte bad, exec (.radioByteArrival byte bad) s =
      .next (radio { r with
        inGap := false, lastByte := s.time
        assembling :=
          if r.inGap = true then (if r.rxAck = true then some [⟨byte, bad⟩] else none)
          else r.assembling.map (· ++ [⟨byte, bad⟩]) })) ∧
    (r.inGap = true ∨ (s.time - r.lastByte).toNat < 3 → exec .receiveIdleGap s = .next s) ∧
    (r.inGap = false → 3 ≤ (s.time - r.lastByte).toNat →
      let gap (x : Rlc) : Rlc := { x with assembling := none, inGap := true, rxAck := r.rxEnable }
      let ignored : Prop := exec .receiveIdleGap s = .next (radio (gap r))
      let run := min 255 (r.badRun + 1)
      let judgedBad (judge : Nat) : Prop := ∃ t, exec .receiveIdleGap s = .next t ∧ OnlyBlocks s t ∧
        t.blocks = { s.blocks with rlc := t.blocks.rlc, po := t.blocks.po } ∧
        t.blocks.rlc = gap { r with
          badRun := run, degradedArmed := r.degradedArmed && decide (run < 8) } ∧
        t.blocks.po =
          if r.degradedArmed = true ∧ 8 ≤ run then s.blocks.po.placeOn ⟨s.time, .radioDegraded run judge⟩ [.traffic]
          else s.blocks.po
      let judgedGood (body : RxBody) : Prop := ∃ t, exec .receiveIdleGap s = .next t ∧ OnlyBlocks s t ∧
        t.blocks = { s.blocks with rlc := t.blocks.rlc, po := t.blocks.po } ∧
        (r.rxQueue.length < 16 →
          t.blocks.po = s.blocks.po ∧
            t.blocks.rlc = gap { r with
              badRun := 0, degradedArmed := true, rxQueue := r.rxQueue ++ [⟨body, r.lastByte⟩] }) ∧
        (16 ≤ r.rxQueue.length →
          let lost := min 65535 (r.overrunCount + 1)
          t.blocks.po = s.blocks.po.placeOn ⟨s.time, .radioOverrun lost body.kind body.vehicle⟩ [.traffic] ∧
            t.blocks.rlc = gap { r with
              badRun := 0, degradedArmed := true, overrun := true, overrunCount := lost })
      let clean (bs : List Byte) : List RadioByte := bs.map fun x => ⟨x, false⟩
      (r.assembling = none → ignored) ∧
      ∀ first more, r.assembling = some (first :: more) →
        (first.bad = true → judgedBad 1) ∧
        (first.bad = false → first.byte.toNat ≠ net.radioGroup → ignored) ∧
        (first.bad = false → first.byte.toNat = net.radioGroup →
          ((∃ x ∈ more, x.bad = true) → judgedBad 3) ∧
          ((∀ x ∈ more, x.bad = false) →
            (more.length < 5 ∨ 24 ≤ more.length → judgedBad 4) ∧
            (5 ≤ more.length → more.length < 24 →
              let sound := checkOk (first.byte :: more.map (·.byte)) = true
              (¬ sound → judgedBad 5) ∧
              ∀ kind v1 v0 others, sound → more.map (·.byte) = kind :: v1 :: v0 :: others →
                (kind = 0 ∨ 3 < kind.toNat → judgedBad 6) ∧
                (kind ≠ 0 → kind.toNat ≤ 3 →
                  (kind = 1 ∧ more.length ≠ 7) ∨ (kind = 2 ∧ more.length ≠ 8) ∨ (kind = 3 ∧ more.length ≠ 6) ∨
                    wordOf v1 v0 = 0 ∨ 4095 < wordOf v1 v0 → judgedBad 7))) ∧
          ∀ v1 v0 : Byte, 1 ≤ wordOf v1 v0 → wordOf v1 v0 ≤ 4095 →
            (∀ det d : Byte,
              first :: more = clean (withCheck [first.byte, 1, v1, v0, det, d]) →
              (d = 0 → judgedGood (.pos (wordOf v1 v0) det.toNat .ab)) ∧
              (d = 1 → judgedGood (.pos (wordOf v1 v0) det.toNat .ba)) ∧ (1 < d.toNat → judgedBad 7)) ∧
            (∀ c detail det : Byte,
              first :: more = clean (withCheck [first.byte, 2, v1, v0, c, detail, det]) →
              (∀ code : FaultCode, code.number = c.toNat → (code = .dewire → 1 ≤ detail.toNat ∧ detail.toNat ≤ 3) →
                judgedGood (.flt (wordOf v1 v0) code detail.toNat det.toNat)) ∧
              (c = 0 ∨ 5 < c.toNat ∨ (c = 1 ∧ (detail = 0 ∨ 3 < detail.toNat)) → judgedBad 7)) ∧
            ∀ c : Byte, first :: more = clean (withCheck [first.byte, 3, v1, v0, c]) →
              (c = 0 → judgedGood (.clr (wordOf v1 v0) none)) ∧
              (∀ code : FaultCode, code.number = c.toNat → judgedGood (.clr (wordOf v1 v0) (some code))) ∧
              (5 < c.toNat → judgedBad 7))) ∧
    (let may := r.txAck = true ∧ r.sending = none ∧ r.gapAfterSend = none ∧ r.inGap = true
     (¬ may ∨ (r.allStop = false ∧ r.txQueue = []) → exec .transmitStart s = .next s) ∧
     (may → r.allStop = true →
       exec .transmitStart s = .next (radio { r with allStop := false, sending := some ⟨.allStop, sent .allStop⟩ })) ∧
     ∀ t q, may → r.allStop = false → r.txQueue = t :: q →
       exec .transmitStart s = .next (radio { r with txQueue := q, sending := some ⟨t, sent t⟩ })) ∧
    (r.sending = none → exec .transmitEnd s = .next s) ∧
    (r.sending ≠ none → exec .transmitEnd s =
      .next (radio (followed { r with sending := none, gapAfterSend := some ⟨s.time, 3⟩ })))
end

