-- ==== Sys2Proof/Laws/State.lean ====
section
/-! SUPPORT. One lemma for each field that a named update leaves as it stood, all by `rfl`, so that no proof unfolds a record
update. -/

namespace Sys2Proof.Machine

open Sys2Proof

/-! ### `Blocks.setFeeder` -/

@[simp] theorem Blocks.setFeeder_clc (f : Nat) (x : Feeder) (b : Blocks) : (b.setFeeder f x).clc = b.clc := rfl
@[simp] theorem Blocks.setFeeder_sq (f : Nat) (x : Feeder) (b : Blocks) : (b.setFeeder f x).sq = b.sq := rfl
@[simp] theorem Blocks.setFeeder_mq (f : Nat) (x : Feeder) (b : Blocks) : (b.setFeeder f x).mq = b.mq := rfl
@[simp] theorem Blocks.setFeeder_sections (f : Nat) (x : Feeder) (b : Blocks) : (b.setFeeder f x).sections = b.sections := rfl
@[simp] theorem Blocks.setFeeder_permits (f : Nat) (x : Feeder) (b : Blocks) : (b.setFeeder f x).permits = b.permits := rfl
@[simp] theorem Blocks.setFeeder_points (f : Nat) (x : Feeder) (b : Blocks) : (b.setFeeder f x).points = b.points := rfl
@[simp] theorem Blocks.setFeeder_dlc (f : Nat) (x : Feeder) (b : Blocks) : (b.setFeeder f x).dlc = b.dlc := rfl
@[simp] theorem Blocks.setFeeder_passes (f : Nat) (x : Feeder) (b : Blocks) : (b.setFeeder f x).passes = b.passes := rfl
@[simp] theorem Blocks.setFeeder_vt (f : Nat) (x : Feeder) (b : Blocks) : (b.setFeeder f x).vt = b.vt := rfl
@[simp] theorem Blocks.setFeeder_rlc (f : Nat) (x : Feeder) (b : Blocks) : (b.setFeeder f x).rlc = b.rlc := rfl
@[simp] theorem Blocks.setFeeder_po (f : Nat) (x : Feeder) (b : Blocks) : (b.setFeeder f x).po = b.po := rfl

/-! ### `Blocks.setSection` -/

@[simp] theorem Blocks.setSection_clc (sec : Nat) (x : SectionRec) (b : Blocks) : (b.setSection sec x).clc = b.clc := rfl
@[simp] theorem Blocks.setSection_sq (sec : Nat) (x : SectionRec) (b : Blocks) : (b.setSection sec x).sq = b.sq := rfl
@[simp] theorem Blocks.setSection_mq (sec : Nat) (x : SectionRec) (b : Blocks) : (b.setSection sec x).mq = b.mq := rfl
@[simp] theorem Blocks.setSection_feeders (sec : Nat) (x : SectionRec) (b : Blocks) : (b.setSection sec x).feeders = b.feeders := rfl
@[simp] theorem Blocks.setSection_permits (sec : Nat) (x : SectionRec) (b : Blocks) : (b.setSection sec x).permits = b.permits := rfl
@[simp] theorem Blocks.setSection_points (sec : Nat) (x : SectionRec) (b : Blocks) : (b.setSection sec x).points = b.points := rfl
@[simp] theorem Blocks.setSection_dlc (sec : Nat) (x : SectionRec) (b : Blocks) : (b.setSection sec x).dlc = b.dlc := rfl
@[simp] theorem Blocks.setSection_passes (sec : Nat) (x : SectionRec) (b : Blocks) : (b.setSection sec x).passes = b.passes := rfl
@[simp] theorem Blocks.setSection_vt (sec : Nat) (x : SectionRec) (b : Blocks) : (b.setSection sec x).vt = b.vt := rfl
@[simp] theorem Blocks.setSection_rlc (sec : Nat) (x : SectionRec) (b : Blocks) : (b.setSection sec x).rlc = b.rlc := rfl
@[simp] theorem Blocks.setSection_po (sec : Nat) (x : SectionRec) (b : Blocks) : (b.setSection sec x).po = b.po := rfl

/-! ### `Blocks.setPoint` -/

@[simp] theorem Blocks.setPoint_clc (pt : Nat) (x : Point) (b : Blocks) : (b.setPoint pt x).clc = b.clc := rfl
@[simp] theorem Blocks.setPoint_sq (pt : Nat) (x : Point) (b : Blocks) : (b.setPoint pt x).sq = b.sq := rfl
@[simp] theorem Blocks.setPoint_mq (pt : Nat) (x : Point) (b : Blocks) : (b.setPoint pt x).mq = b.mq := rfl
@[simp] theorem Blocks.setPoint_feeders (pt : Nat) (x : Point) (b : Blocks) : (b.setPoint pt x).feeders = b.feeders := rfl
@[simp] theorem Blocks.setPoint_sections (pt : Nat) (x : Point) (b : Blocks) : (b.setPoint pt x).sections = b.sections := rfl
@[simp] theorem Blocks.setPoint_permits (pt : Nat) (x : Point) (b : Blocks) : (b.setPoint pt x).permits = b.permits := rfl
@[simp] theorem Blocks.setPoint_dlc (pt : Nat) (x : Point) (b : Blocks) : (b.setPoint pt x).dlc = b.dlc := rfl
@[simp] theorem Blocks.setPoint_passes (pt : Nat) (x : Point) (b : Blocks) : (b.setPoint pt x).passes = b.passes := rfl
@[simp] theorem Blocks.setPoint_vt (pt : Nat) (x : Point) (b : Blocks) : (b.setPoint pt x).vt = b.vt := rfl
@[simp] theorem Blocks.setPoint_rlc (pt : Nat) (x : Point) (b : Blocks) : (b.setPoint pt x).rlc = b.rlc := rfl
@[simp] theorem Blocks.setPoint_po (pt : Nat) (x : Point) (b : Blocks) : (b.setPoint pt x).po = b.po := rfl

/-! ### `Blocks.amendFeeder` -/

@[simp] theorem Blocks.amendFeeder_clc (f : Nat) (g : Feeder → Feeder) (b : Blocks) : (b.amendFeeder f g).clc = b.clc := rfl
@[simp] theorem Blocks.amendFeeder_sq (f : Nat) (g : Feeder → Feeder) (b : Blocks) : (b.amendFeeder f g).sq = b.sq := rfl
@[simp] theorem Blocks.amendFeeder_mq (f : Nat) (g : Feeder → Feeder) (b : Blocks) : (b.amendFeeder f g).mq = b.mq := rfl
@[simp] theorem Blocks.amendFeeder_sections (f : Nat) (g : Feeder → Feeder) (b : Blocks) : (b.amendFeeder f g).sections = b.sections := rfl
@[simp] theorem Blocks.amendFeeder_permits (f : Nat) (g : Feeder → Feeder) (b : Blocks) : (b.amendFeeder f g).permits = b.permits := rfl
@[simp] theorem Blocks.amendFeeder_points (f : Nat) (g : Feeder → Feeder) (b : Blocks) : (b.amendFeeder f g).points = b.points := rfl
@[simp] theorem Blocks.amendFeeder_dlc (f : Nat) (g : Feeder → Feeder) (b : Blocks) : (b.amendFeeder f g).dlc = b.dlc := rfl
@[simp] theorem Blocks.amendFeeder_passes (f : Nat) (g : Feeder → Feeder) (b : Blocks) : (b.amendFeeder f g).passes = b.passes := rfl
@[simp] theorem Blocks.amendFeeder_vt (f : Nat) (g : Feeder → Feeder) (b : Blocks) : (b.amendFeeder f g).vt = b.vt := rfl
@[simp] theorem Blocks.amendFeeder_rlc (f : Nat) (g : Feeder → Feeder) (b : Blocks) : (b.amendFeeder f g).rlc = b.rlc := rfl
@[simp] theorem Blocks.amendFeeder_po (f : Nat) (g : Feeder → Feeder) (b : Blocks) : (b.amendFeeder f g).po = b.po := rfl

/-! ### `Blocks.amendSection` -/

@[simp] theorem Blocks.amendSection_clc (sec : Nat) (g : SectionRec → SectionRec) (b : Blocks) : (b.amendSection sec g).clc = b.clc := rfl
@[simp] theorem Blocks.amendSection_sq (sec : Nat) (g : SectionRec → SectionRec) (b : Blocks) : (b.amendSection sec g).sq = b.sq := rfl
@[simp] theorem Blocks.amendSection_mq (sec : Nat) (g : SectionRec → SectionRec) (b : Blocks) : (b.amendSection sec g).mq = b.mq := rfl
@[simp] theorem Blocks.amendSection_feeders (sec : Nat) (g : SectionRec → SectionRec) (b : Blocks) : (b.amendSection sec g).feeders = b.feeders := rfl
@[simp] theorem Blocks.amendSection_permits (sec : Nat) (g : SectionRec → SectionRec) (b : Blocks) : (b.amendSection sec g).permits = b.permits := rfl
@[simp] theorem Blocks.amendSection_points (sec : Nat) (g : SectionRec → SectionRec) (b : Blocks) : (b.amendSection sec g).points = b.points := rfl
@[simp] theorem Blocks.amendSection_dlc (sec : Nat) (g : SectionRec → SectionRec) (b : Blocks) : (b.amendSection sec g).dlc = b.dlc := rfl
@[simp] theorem Blocks.amendSection_passes (sec : Nat) (g : SectionRec → SectionRec) (b : Blocks) : (b.amendSection sec g).passes = b.passes := rfl
@[simp] theorem Blocks.amendSection_vt (sec : Nat) (g : SectionRec → SectionRec) (b : Blocks) : (b.amendSection sec g).vt = b.vt := rfl
@[simp] theorem Blocks.amendSection_rlc (sec : Nat) (g : SectionRec → SectionRec) (b : Blocks) : (b.amendSection sec g).rlc = b.rlc := rfl
@[simp] theorem Blocks.amendSection_po (sec : Nat) (g : SectionRec → SectionRec) (b : Blocks) : (b.amendSection sec g).po = b.po := rfl

/-! ### `Blocks.amendPoint` -/

@[simp] theorem Blocks.amendPoint_clc (pt : Nat) (g : Point → Point) (b : Blocks) : (b.amendPoint pt g).clc = b.clc := rfl
@[simp] theorem Blocks.amendPoint_sq (pt : Nat) (g : Point → Point) (b : Blocks) : (b.amendPoint pt g).sq = b.sq := rfl
@[simp] theorem Blocks.amendPoint_mq (pt : Nat) (g : Point → Point) (b : Blocks) : (b.amendPoint pt g).mq = b.mq := rfl
@[simp] theorem Blocks.amendPoint_feeders (pt : Nat) (g : Point → Point) (b : Blocks) : (b.amendPoint pt g).feeders = b.feeders := rfl
@[simp] theorem Blocks.amendPoint_sections (pt : Nat) (g : Point → Point) (b : Blocks) : (b.amendPoint pt g).sections = b.sections := rfl
@[simp] theorem Blocks.amendPoint_permits (pt : Nat) (g : Point → Point) (b : Blocks) : (b.amendPoint pt g).permits = b.permits := rfl
@[simp] theorem Blocks.amendPoint_dlc (pt : Nat) (g : Point → Point) (b : Blocks) : (b.amendPoint pt g).dlc = b.dlc := rfl
@[simp] theorem Blocks.amendPoint_passes (pt : Nat) (g : Point → Point) (b : Blocks) : (b.amendPoint pt g).passes = b.passes := rfl
@[simp] theorem Blocks.amendPoint_vt (pt : Nat) (g : Point → Point) (b : Blocks) : (b.amendPoint pt g).vt = b.vt := rfl
@[simp] theorem Blocks.amendPoint_rlc (pt : Nat) (g : Point → Point) (b : Blocks) : (b.amendPoint pt g).rlc = b.rlc := rfl
@[simp] theorem Blocks.amendPoint_po (pt : Nat) (g : Point → Point) (b : Blocks) : (b.amendPoint pt g).po = b.po := rfl

/-! ### `Blocks.setVehicle` -/

@[simp] theorem Blocks.setVehicle_clc (v : Vehicle) (b : Blocks) : (b.setVehicle v).clc = b.clc := rfl
@[simp] theorem Blocks.setVehicle_sq (v : Vehicle) (b : Blocks) : (b.setVehicle v).sq = b.sq := rfl
@[simp] theorem Blocks.setVehicle_mq (v : Vehicle) (b : Blocks) : (b.setVehicle v).mq = b.mq := rfl
@[simp] theorem Blocks.setVehicle_feeders (v : Vehicle) (b : Blocks) : (b.setVehicle v).feeders = b.feeders := rfl
@[simp] theorem Blocks.setVehicle_sections (v : Vehicle) (b : Blocks) : (b.setVehicle v).sections = b.sections := rfl
@[simp] theorem Blocks.setVehicle_permits (v : Vehicle) (b : Blocks) : (b.setVehicle v).permits = b.permits := rfl
@[simp] theorem Blocks.setVehicle_points (v : Vehicle) (b : Blocks) : (b.setVehicle v).points = b.points := rfl
@[simp] theorem Blocks.setVehicle_dlc (v : Vehicle) (b : Blocks) : (b.setVehicle v).dlc = b.dlc := rfl
@[simp] theorem Blocks.setVehicle_passes (v : Vehicle) (b : Blocks) : (b.setVehicle v).passes = b.passes := rfl
@[simp] theorem Blocks.setVehicle_rlc (v : Vehicle) (b : Blocks) : (b.setVehicle v).rlc = b.rlc := rfl
@[simp] theorem Blocks.setVehicle_po (v : Vehicle) (b : Blocks) : (b.setVehicle v).po = b.po := rfl

/-! ### `say` -/

@[simp] theorem say_clc (e : Env) (n : NoticeBody) (b : Blocks) : (say e n b).clc = b.clc := rfl
@[simp] theorem say_sq (e : Env) (n : NoticeBody) (b : Blocks) : (say e n b).sq = b.sq := rfl
@[simp] theorem say_mq (e : Env) (n : NoticeBody) (b : Blocks) : (say e n b).mq = b.mq := rfl
@[simp] theorem say_feeders (e : Env) (n : NoticeBody) (b : Blocks) : (say e n b).feeders = b.feeders := rfl
@[simp] theorem say_sections (e : Env) (n : NoticeBody) (b : Blocks) : (say e n b).sections = b.sections := rfl
@[simp] theorem say_permits (e : Env) (n : NoticeBody) (b : Blocks) : (say e n b).permits = b.permits := rfl
@[simp] theorem say_points (e : Env) (n : NoticeBody) (b : Blocks) : (say e n b).points = b.points := rfl
@[simp] theorem say_dlc (e : Env) (n : NoticeBody) (b : Blocks) : (say e n b).dlc = b.dlc := rfl
@[simp] theorem say_passes (e : Env) (n : NoticeBody) (b : Blocks) : (say e n b).passes = b.passes := rfl
@[simp] theorem say_vt (e : Env) (n : NoticeBody) (b : Blocks) : (say e n b).vt = b.vt := rfl
@[simp] theorem say_rlc (e : Env) (n : NoticeBody) (b : Blocks) : (say e n b).rlc = b.rlc := rfl

/-! ### `setLeader` -/

@[simp] theorem setLeader_clc (sec : Nat) (l : Option Nat) (b : Blocks) : (setLeader sec l b).clc = b.clc := rfl
@[simp] theorem setLeader_sq (sec : Nat) (l : Option Nat) (b : Blocks) : (setLeader sec l b).sq = b.sq := rfl
@[simp] theorem setLeader_mq (sec : Nat) (l : Option Nat) (b : Blocks) : (setLeader sec l b).mq = b.mq := rfl
@[simp] theorem setLeader_feeders (sec : Nat) (l : Option Nat) (b : Blocks) : (setLeader sec l b).feeders = b.feeders := rfl
@[simp] theorem setLeader_permits (sec : Nat) (l : Option Nat) (b : Blocks) : (setLeader sec l b).permits = b.permits := rfl
@[simp] theorem setLeader_points (sec : Nat) (l : Option Nat) (b : Blocks) : (setLeader sec l b).points = b.points := rfl
@[simp] theorem setLeader_dlc (sec : Nat) (l : Option Nat) (b : Blocks) : (setLeader sec l b).dlc = b.dlc := rfl
@[simp] theorem setLeader_passes (sec : Nat) (l : Option Nat) (b : Blocks) : (setLeader sec l b).passes = b.passes := rfl
@[simp] theorem setLeader_vt (sec : Nat) (l : Option Nat) (b : Blocks) : (setLeader sec l b).vt = b.vt := rfl
@[simp] theorem setLeader_rlc (sec : Nat) (l : Option Nat) (b : Blocks) : (setLeader sec l b).rlc = b.rlc := rfl
@[simp] theorem setLeader_po (sec : Nat) (l : Option Nat) (b : Blocks) : (setLeader sec l b).po = b.po := rfl

/-! ### `amendPu` -/

@[simp] theorem amendPu_clc (f : Nat) (g : Pu → Pu) (b : Blocks) : (amendPu f g b).clc = b.clc := rfl
@[simp] theorem amendPu_sq (f : Nat) (g : Pu → Pu) (b : Blocks) : (amendPu f g b).sq = b.sq := rfl
@[simp] theorem amendPu_mq (f : Nat) (g : Pu → Pu) (b : Blocks) : (amendPu f g b).mq = b.mq := rfl
@[simp] theorem amendPu_sections (f : Nat) (g : Pu → Pu) (b : Blocks) : (amendPu f g b).sections = b.sections := rfl
@[simp] theorem amendPu_permits (f : Nat) (g : Pu → Pu) (b : Blocks) : (amendPu f g b).permits = b.permits := rfl
@[simp] theorem amendPu_points (f : Nat) (g : Pu → Pu) (b : Blocks) : (amendPu f g b).points = b.points := rfl
@[simp] theorem amendPu_dlc (f : Nat) (g : Pu → Pu) (b : Blocks) : (amendPu f g b).dlc = b.dlc := rfl
@[simp] theorem amendPu_passes (f : Nat) (g : Pu → Pu) (b : Blocks) : (amendPu f g b).passes = b.passes := rfl
@[simp] theorem amendPu_vt (f : Nat) (g : Pu → Pu) (b : Blocks) : (amendPu f g b).vt = b.vt := rfl
@[simp] theorem amendPu_rlc (f : Nat) (g : Pu → Pu) (b : Blocks) : (amendPu f g b).rlc = b.rlc := rfl
@[simp] theorem amendPu_po (f : Nat) (g : Pu → Pu) (b : Blocks) : (amendPu f g b).po = b.po := rfl

/-! ### `enqueue` -/

@[simp] theorem enqueue_clc (pt : Nat) (b : Blocks) : (enqueue pt b).clc = b.clc := rfl
@[simp] theorem enqueue_sq (pt : Nat) (b : Blocks) : (enqueue pt b).sq = b.sq := rfl
@[simp] theorem enqueue_mq (pt : Nat) (b : Blocks) : (enqueue pt b).mq = b.mq := rfl
@[simp] theorem enqueue_feeders (pt : Nat) (b : Blocks) : (enqueue pt b).feeders = b.feeders := rfl
@[simp] theorem enqueue_sections (pt : Nat) (b : Blocks) : (enqueue pt b).sections = b.sections := rfl
@[simp] theorem enqueue_permits (pt : Nat) (b : Blocks) : (enqueue pt b).permits = b.permits := rfl
@[simp] theorem enqueue_points (pt : Nat) (b : Blocks) : (enqueue pt b).points = b.points := rfl
@[simp] theorem enqueue_passes (pt : Nat) (b : Blocks) : (enqueue pt b).passes = b.passes := rfl
@[simp] theorem enqueue_vt (pt : Nat) (b : Blocks) : (enqueue pt b).vt = b.vt := rfl
@[simp] theorem enqueue_rlc (pt : Nat) (b : Blocks) : (enqueue pt b).rlc = b.rlc := rfl
@[simp] theorem enqueue_po (pt : Nat) (b : Blocks) : (enqueue pt b).po = b.po := rfl

/-! ### `unqueue` -/

@[simp] theorem unqueue_clc (pt : Nat) (b : Blocks) : (unqueue pt b).clc = b.clc := rfl
@[simp] theorem unqueue_sq (pt : Nat) (b : Blocks) : (unqueue pt b).sq = b.sq := rfl
@[simp] theorem unqueue_mq (pt : Nat) (b : Blocks) : (unqueue pt b).mq = b.mq := rfl
@[simp] theorem unqueue_feeders (pt : Nat) (b : Blocks) : (unqueue pt b).feeders = b.feeders := rfl
@[simp] theorem unqueue_sections (pt : Nat) (b : Blocks) : (unqueue pt b).sections = b.sections := rfl
@[simp] theorem unqueue_permits (pt : Nat) (b : Blocks) : (unqueue pt b).permits = b.permits := rfl
@[simp] theorem unqueue_points (pt : Nat) (b : Blocks) : (unqueue pt b).points = b.points := rfl
@[simp] theorem unqueue_passes (pt : Nat) (b : Blocks) : (unqueue pt b).passes = b.passes := rfl
@[simp] theorem unqueue_vt (pt : Nat) (b : Blocks) : (unqueue pt b).vt = b.vt := rfl
@[simp] theorem unqueue_rlc (pt : Nat) (b : Blocks) : (unqueue pt b).rlc = b.rlc := rfl
@[simp] theorem unqueue_po (pt : Nat) (b : Blocks) : (unqueue pt b).po = b.po := rfl

/-! ### `convert` -/

@[simp] theorem convert_sq (e : Env) (ch : Nat) (o : ConversionOwner) (b : Blocks) : (convert e ch o b).sq = b.sq := rfl
@[simp] theorem convert_mq (e : Env) (ch : Nat) (o : ConversionOwner) (b : Blocks) : (convert e ch o b).mq = b.mq := rfl
@[simp] theorem convert_feeders (e : Env) (ch : Nat) (o : ConversionOwner) (b : Blocks) : (convert e ch o b).feeders = b.feeders := rfl
@[simp] theorem convert_sections (e : Env) (ch : Nat) (o : ConversionOwner) (b : Blocks) : (convert e ch o b).sections = b.sections := rfl
@[simp] theorem convert_permits (e : Env) (ch : Nat) (o : ConversionOwner) (b : Blocks) : (convert e ch o b).permits = b.permits := rfl
@[simp] theorem convert_points (e : Env) (ch : Nat) (o : ConversionOwner) (b : Blocks) : (convert e ch o b).points = b.points := rfl
@[simp] theorem convert_dlc (e : Env) (ch : Nat) (o : ConversionOwner) (b : Blocks) : (convert e ch o b).dlc = b.dlc := rfl
@[simp] theorem convert_passes (e : Env) (ch : Nat) (o : ConversionOwner) (b : Blocks) : (convert e ch o b).passes = b.passes := rfl
@[simp] theorem convert_vt (e : Env) (ch : Nat) (o : ConversionOwner) (b : Blocks) : (convert e ch o b).vt = b.vt := rfl
@[simp] theorem convert_rlc (e : Env) (ch : Nat) (o : ConversionOwner) (b : Blocks) : (convert e ch o b).rlc = b.rlc := rfl
@[simp] theorem convert_po (e : Env) (ch : Nat) (o : ConversionOwner) (b : Blocks) : (convert e ch o b).po = b.po := rfl

/-! ### `startBusyDelay` -/

@[simp] theorem startBusyDelay_clc (e : Env) (pt : Nat) (b : Blocks) : (startBusyDelay e pt b).clc = b.clc := rfl
@[simp] theorem startBusyDelay_sq (e : Env) (pt : Nat) (b : Blocks) : (startBusyDelay e pt b).sq = b.sq := rfl
@[simp] theorem startBusyDelay_mq (e : Env) (pt : Nat) (b : Blocks) : (startBusyDelay e pt b).mq = b.mq := rfl
@[simp] theorem startBusyDelay_feeders (e : Env) (pt : Nat) (b : Blocks) : (startBusyDelay e pt b).feeders = b.feeders := rfl
@[simp] theorem startBusyDelay_sections (e : Env) (pt : Nat) (b : Blocks) : (startBusyDelay e pt b).sections = b.sections := rfl
@[simp] theorem startBusyDelay_permits (e : Env) (pt : Nat) (b : Blocks) : (startBusyDelay e pt b).permits = b.permits := rfl
@[simp] theorem startBusyDelay_dlc (e : Env) (pt : Nat) (b : Blocks) : (startBusyDelay e pt b).dlc = b.dlc := rfl
@[simp] theorem startBusyDelay_passes (e : Env) (pt : Nat) (b : Blocks) : (startBusyDelay e pt b).passes = b.passes := rfl
@[simp] theorem startBusyDelay_vt (e : Env) (pt : Nat) (b : Blocks) : (startBusyDelay e pt b).vt = b.vt := rfl
@[simp] theorem startBusyDelay_rlc (e : Env) (pt : Nat) (b : Blocks) : (startBusyDelay e pt b).rlc = b.rlc := rfl
@[simp] theorem startBusyDelay_po (e : Env) (pt : Nat) (b : Blocks) : (startBusyDelay e pt b).po = b.po := rfl

/-! ### `State.setPort` -/

@[simp] theorem State.setPort_pending (p : Port) (ps : PortState) (s : State) : (s.setPort p ps).pending = s.pending := rfl
@[simp] theorem State.setPort_mode (p : Port) (ps : PortState) (s : State) : (s.setPort p ps).mode = s.mode := rfl
@[simp] theorem State.setPort_time (p : Port) (ps : PortState) (s : State) : (s.setPort p ps).time = s.time := rfl
@[simp] theorem State.setPort_net (p : Port) (ps : PortState) (s : State) : (s.setPort p ps).net = s.net := rfl
@[simp] theorem State.setPort_derived (p : Port) (ps : PortState) (s : State) : (s.setPort p ps).derived = s.derived := rfl
@[simp] theorem State.setPort_pins (p : Port) (ps : PortState) (s : State) : (s.setPort p ps).pins = s.pins := rfl

/-! ### `State.amendPort` -/

@[simp] theorem State.amendPort_pending (p : Port) (g : PortState → PortState) (s : State) : (s.amendPort p g).pending = s.pending := rfl
@[simp] theorem State.amendPort_mode (p : Port) (g : PortState → PortState) (s : State) : (s.amendPort p g).mode = s.mode := rfl
@[simp] theorem State.amendPort_time (p : Port) (g : PortState → PortState) (s : State) : (s.amendPort p g).time = s.time := rfl
@[simp] theorem State.amendPort_net (p : Port) (g : PortState → PortState) (s : State) : (s.amendPort p g).net = s.net := rfl
@[simp] theorem State.amendPort_derived (p : Port) (g : PortState → PortState) (s : State) : (s.amendPort p g).derived = s.derived := rfl
@[simp] theorem State.amendPort_pins (p : Port) (g : PortState → PortState) (s : State) : (s.amendPort p g).pins = s.pins := rfl

/-! ### `State.placeReply` -/

@[simp] theorem State.placeReply_pending (p : Port) (r : Reply) (s : State) : (s.placeReply p r).pending = s.pending := rfl
@[simp] theorem State.placeReply_mode (p : Port) (r : Reply) (s : State) : (s.placeReply p r).mode = s.mode := rfl
@[simp] theorem State.placeReply_time (p : Port) (r : Reply) (s : State) : (s.placeReply p r).time = s.time := rfl
@[simp] theorem State.placeReply_net (p : Port) (r : Reply) (s : State) : (s.placeReply p r).net = s.net := rfl
@[simp] theorem State.placeReply_derived (p : Port) (r : Reply) (s : State) : (s.placeReply p r).derived = s.derived := rfl
@[simp] theorem State.placeReply_pins (p : Port) (r : Reply) (s : State) : (s.placeReply p r).pins = s.pins := rfl

/-! ### `State.onBlocks` -/

@[simp] theorem State.onBlocks_pending (f : Env → Blocks → Blocks) (s : State) : (s.onBlocks f).pending = s.pending := rfl
@[simp] theorem State.onBlocks_mode (f : Env → Blocks → Blocks) (s : State) : (s.onBlocks f).mode = s.mode := rfl
@[simp] theorem State.onBlocks_time (f : Env → Blocks → Blocks) (s : State) : (s.onBlocks f).time = s.time := rfl
@[simp] theorem State.onBlocks_net (f : Env → Blocks → Blocks) (s : State) : (s.onBlocks f).net = s.net := rfl
@[simp] theorem State.onBlocks_derived (f : Env → Blocks → Blocks) (s : State) : (s.onBlocks f).derived = s.derived := rfl
@[simp] theorem State.onBlocks_pins (f : Env → Blocks → Blocks) (s : State) : (s.onBlocks f).pins = s.pins := rfl

/-! ### The environment -/

@[simp] theorem State.env_time (s : State) : s.env.time = s.time := rfl
@[simp] theorem State.env_net (s : State) : s.env.net = s.net := rfl
@[simp] theorem State.env_derived (s : State) : s.env.derived = s.derived := rfl
@[simp] theorem State.env_pins (s : State) : s.env.pins = s.pins := rfl
@[simp] theorem State.onBlocks_blocks (f : Env → Blocks → Blocks) (s : State) :
    (s.onBlocks f).blocks = f s.env s.blocks := rfl

/-! ### The ports -/

@[simp] theorem Po.port_setPort_self (po : Po) (p : Port) (ps : PortState) : (po.setPort p ps).port p = ps := by
  cases p <;> rfl

theorem Po.port_setPort_ne (po : Po) (p q : Port) (ps : PortState) (h : q ≠ p) :
    (po.setPort p ps).port q = po.port q := by
  cases p <;> cases q <;> first | rfl | exact absurd rfl h

@[simp] theorem State.port_setPort_self (s : State) (p : Port) (ps : PortState) : (s.setPort p ps).port p = ps := by
  cases p <;> rfl

theorem State.port_setPort_ne (s : State) (p q : Port) (ps : PortState) (h : q ≠ p) :
    (s.setPort p ps).port q = s.port q :=
  Po.port_setPort_ne _ _ _ _ h

@[simp] theorem State.port_amendPort_self (s : State) (p : Port) (g : PortState → PortState) :
    (s.amendPort p g).port p = g (s.port p) := by
  cases p <;> rfl

theorem State.port_amendPort_ne (s : State) (p q : Port) (g : PortState → PortState) (h : q ≠ p) :
    (s.amendPort p g).port q = s.port q :=
  Po.port_setPort_ne _ _ _ _ h

/-! ### An event of RUN -/

theorem State.inRun_config (f : Env → Blocks → Blocks) (s : State) (h : s.mode = .config) : s.inRun f = s := by
  simp [State.inRun, h]

theorem State.inRun_run (f : Env → Blocks → Blocks) (s : State) (h : s.mode = .run) :
    s.inRun f = s.onBlocks f := by
  simp [State.inRun, h]

/-- What an event of the blocks leaves of the rest of the state, in CONFIG and RUN. -/
theorem State.inRun_rest (f : Env → Blocks → Blocks) (s : State) :
    (s.inRun f).pending = s.pending ∧ (s.inRun f).mode = s.mode ∧ (s.inRun f).time = s.time ∧
      (s.inRun f).net = s.net ∧ (s.inRun f).derived = s.derived ∧ (s.inRun f).pins = s.pins := by
  unfold State.inRun
  split <;> exact ⟨rfl, rfl, rfl, rfl, rfl, rfl⟩

end Sys2Proof.Machine
end

