-- ==== Sys2Proof/Laws/Frames.lean ====
section
/-! SUPPORT. What each shared operation may touch, said once for each: an operation whose result is reached from `b` by
events of points (or of feeders) is still so reached when the operation is applied on top. -/

namespace Sys2Proof.Machine

open Sys2Proof

/-! ## Notices -/

theorem Notified.refl (po : Po) : Notified po po := ⟨[], rfl⟩

theorem Notified.trans {a b c : Po} (h : Notified a b) (k : Notified b c) : Notified a c := by
  obtain ⟨ns, rfl⟩ := h
  obtain ⟨ms, rfl⟩ := k
  exact ⟨ns ++ ms, (List.foldl_append ..).symm⟩

theorem Notified.place (po : Po) (n : Notice) : Notified po (po.placeOn n n.body.kind.ports) := ⟨[n], rfl⟩

/-! ## Events of points -/

theorem PointEvents.refl (b : Blocks) : PointEvents b b :=
  ⟨rfl, rfl, rfl, rfl, rfl, rfl, rfl, rfl, rfl, rfl, rfl, .refl _⟩

theorem PointEvents.trans {a b c : Blocks} (h : PointEvents a b) (k : PointEvents b c) : PointEvents a c where
  clc := k.clc.trans h.clc
  sq := k.sq.trans h.sq
  mq := k.mq.trans h.mq
  feeders := k.feeders.trans h.feeders
  sections := k.sections.trans h.sections
  permits := k.permits.trans h.permits
  passes := k.passes.trans h.passes
  vt := k.vt.trans h.vt
  link := k.link.trans h.link
  rest := k.rest.trans h.rest
  rlc := by rw [k.rlc, h.rlc]
  po := h.po.trans k.po

variable {a b : Blocks}

theorem PointEvents.setPoint (h : PointEvents a b) (pt : Nat) (x : Point) : PointEvents a (b.setPoint pt x) := by
  cases h; constructor <;> assumption

theorem PointEvents.amendPoint (h : PointEvents a b) (pt : Nat) (g : Point → Point) :
    PointEvents a (b.amendPoint pt g) := by
  cases h; constructor <;> assumption

theorem PointEvents.say (h : PointEvents a b) (e : Env) (n : NoticeBody) : PointEvents a (say e n b) := by
  have k := h.po.trans (Notified.place b.po ⟨e.time, n⟩)
  cases h; constructor <;> assumption

theorem PointEvents.sayAll (h : PointEvents a b) (e : Env) (ns : List NoticeBody) : PointEvents a (sayAll e ns b) := by
  unfold Machine.sayAll
  induction ns generalizing b with
  | nil => exact h
  | cons n ns ih => exact ih (h.say e n)

theorem PointEvents.enqueue (h : PointEvents a b) (pt : Nat) : PointEvents a (enqueue pt b) := by
  cases h; constructor <;> assumption

theorem PointEvents.unqueue (h : PointEvents a b) (pt : Nat) : PointEvents a (unqueue pt b) := by
  cases h; constructor <;> assumption

theorem PointEvents.handTelegram (h : PointEvents a b) (e : Env) (t : TxTelegram) :
    PointEvents a (handTelegram e t b) := by
  unfold Machine.handTelegram
  have hr := h.rlc
  split
  · exact h
  · split
    · cases h; constructor <;> first | assumption | rw [hr]
    · split
      · cases h; constructor <;> first | assumption | rw [hr]
      · split
        · exact h
        · refine PointEvents.say ?_ e _
          cases h; constructor <;> first | assumption | rw [hr]

theorem PointEvents.ite {c : Prop} [Decidable c] {x y : Blocks} (h : PointEvents a x) (k : PointEvents a y) :
    PointEvents a (if c then x else y) := by
  split <;> assumption

theorem PointEvents.endDrive (h : PointEvents a b) (e : Env) (pt : Nat) (resync : Bool) (r : DriveResult) :
    PointEvents a (endDrive e pt resync r b) := by
  unfold Machine.endDrive
  split
  · exact h
  · exact PointEvents.ite
      (PointEvents.say (PointEvents.ite ((h.setPoint pt _).unqueue pt) (h.setPoint pt _)) e _)
      (PointEvents.ite ((h.setPoint pt _).unqueue pt) (h.setPoint pt _))

theorem PointEvents.headService (h : PointEvents a b) (e : Env) (pt : Nat) : PointEvents a (headService e pt b) := by
  unfold Machine.headService
  repeat' split
  all_goals first
    | exact h
    | exact h.setPoint pt _
    | exact (h.setPoint pt _).say e _
    | exact (h.setPoint pt _).enqueue pt

theorem PointEvents.expireOverdue (h : PointEvents a b) (e : Env) (pt : Nat) : PointEvents a (expireOverdue e pt b) := by
  unfold Machine.expireOverdue
  repeat' split
  all_goals first
    | exact h
    | exact (h.setPoint pt _).say e _

theorem PointEvents.settlePoint (h : PointEvents a b) (e : Env) (pt : Nat) : PointEvents a (settlePoint e pt b) := by
  unfold Machine.settlePoint
  have h' := h.expireOverdue e pt
  dsimp only
  repeat' split
  all_goals first
    | exact h'
    | exact h'.headService e pt
    | exact (h'.endDrive e pt _ _).headService e pt

theorem PointEvents.endPointEvent (h : PointEvents a b) (e : Env) (pt : Nat)
    (before : Option (Point × Contact × Contact)) : PointEvents a (endPointEvent e pt before b) := by
  unfold Machine.endPointEvent
  have h' := h.settlePoint e pt
  dsimp only
  repeat' split
  all_goals first
    | exact h'
    | exact h'.say e _

/-- An event that reaches a point touches what its body touches, and what ends the event. -/
theorem PointEvents.pointEvent (h : PointEvents a b) (e : Env) (pt : Nat) (body : Blocks → Blocks)
    (hb : ∀ c, PointEvents a c → PointEvents a (body c)) : PointEvents a (pointEvent e pt body b) :=
  (hb b h).endPointEvent e pt _

theorem PointEvents.foldl {α : Type} (f : Blocks → α → Blocks) (hf : ∀ c x, PointEvents a c → PointEvents a (f c x))
    (xs : List α) (h : PointEvents a b) : PointEvents a (xs.foldl f b) := by
  induction xs generalizing b with
  | nil => exact h
  | cons x xs ih => exact ih (hf b x h)

theorem PointEvents.sectionPower (h : PointEvents a b) (e : Env) (sec : Nat) : PointEvents a (sectionPower e sec b) := by
  unfold Machine.sectionPower
  refine PointEvents.foldl _ (fun c pt hc => hc.pointEvent e pt _ fun d hd => ?_) _ h
  repeat' split
  all_goals first
    | exact hd
    | exact hd.endDrive e pt _ _

theorem PointEvents.contactsChanged (h : PointEvents a b) (old e : Env) (pt : Nat) :
    PointEvents a (contactsChanged old e pt b) := by
  unfold Machine.contactsChanged
  split
  · exact h
  · dsimp only
    repeat' split
    all_goals first
      | exact h
      | exact h.say e _
      | exact h.endDrive e pt _ _
      | exact (h.say e _).endDrive e pt _ _
      | exact (h.say e _).say e _
      | exact (h.say e _).setPoint pt _
      | exact ((h.say e _).say e _).setPoint pt _

theorem PointEvents.countPass (h : PointEvents a b) (e : Env) (pt : Nat) (r : DetectorRole) (det : Nat) (d : Dir) :
    PointEvents a (countPass e pt r det d b) := by
  unfold Machine.countPass
  split
  · exact h
  · dsimp only
    repeat' split
    all_goals first
      | exact h.setPoint pt _
      | exact (h.setPoint pt _).say e _
      | exact (h.setPoint pt _).setPoint pt _
      | exact ((h.setPoint pt _).say e _).setPoint pt _
      | exact ((h.setPoint pt _).setPoint pt _).say e _
      | exact (((h.setPoint pt _).say e _).setPoint pt _).say e _

theorem PointEvents.pointPass (h : PointEvents a b) (e : Env) (det : Nat) (d : Dir) :
    PointEvents a (pointPass e det d b) := by
  unfold Machine.pointPass
  split
  · exact h
  · exact h.pointEvent e _ _ fun c hc => hc.countPass e _ _ _ _

theorem PointEvents.holdExpires (h : PointEvents a b) (e : Env) (pt : Nat) : PointEvents a (holdExpires e pt b) := by
  unfold Machine.holdExpires
  repeat' split
  all_goals first
    | exact h
    | exact h.setPoint pt _
    | exact (h.setPoint pt _).say e _

theorem PointEvents.blockPoint (h : PointEvents a b) (e : Env) (pt det v : Nat) :
    PointEvents a (blockPoint e pt det v b) := by
  unfold Machine.blockPoint
  refine h.pointEvent e pt _ fun c hc => ?_
  split
  · exact hc
  · dsimp only
    split
    · exact (hc.setPoint pt _).say e _
    · exact ((hc.setPoint pt _).say e _).handTelegram e _

theorem PointEvents.removeReservations (h : PointEvents a b) (e : Env) (pt : Nat) (gone : Reservation → Bool) :
    PointEvents a (removeReservations e pt gone b) := by
  unfold Machine.removeReservations
  split
  · exact h
  · dsimp only
    split
    · exact (h.setPoint pt _).endDrive e pt _ _
    · exact h.setPoint pt _

theorem PointEvents.cancelVehicle (h : PointEvents a b) (e : Env) (v : Nat) : PointEvents a (cancelVehicle e v b) := by
  unfold Machine.cancelVehicle
  refine PointEvents.foldl _ (fun c pt hc => ?_) _ h
  split
  · exact hc
  · exact hc.pointEvent e pt _ fun d hd => hd.removeReservations e pt _

theorem PointEvents.pointTimerExpires (h : PointEvents a b) (e : Env) (pt : Nat) :
    PointEvents a (pointTimerExpires e pt b) := by
  unfold Machine.pointTimerExpires
  repeat' split
  all_goals first
    | exact h
    | exact (h.setPoint pt _).enqueue pt
    | exact h.endDrive e pt _ _

theorem PointEvents.busyExpires (h : PointEvents a b) (e : Env) (pt : Nat) : PointEvents a (busyExpires pt e b) := by
  unfold Machine.busyExpires
  repeat' split
  all_goals first
    | exact h
    | exact (h.setPoint pt _).enqueue pt

theorem PointEvents.saySection (h : PointEvents a b) (e : Env) (sec : Nat) : PointEvents a (saySection e sec b) := by
  unfold Machine.saySection
  split
  · exact h
  · exact h.say e _

theorem PointEvents.broadcast (h : PointEvents a b) (e : Env) (sec : Nat) (old new : SectionState) :
    PointEvents a (broadcast e sec old new b) := by
  unfold Machine.broadcast
  repeat' split
  all_goals first
    | exact h
    | exact h.handTelegram e _

theorem PointEvents.sayFeeder (h : PointEvents a b) (e : Env) (f : Nat) : PointEvents a (sayFeeder e f b) := by
  unfold Machine.sayFeeder
  split
  · exact h
  · exact h.say e _

/-! ## Events of feeders -/

theorem FeederEvents.refl (b : Blocks) : FeederEvents b b :=
  ⟨rfl, rfl, rfl, rfl, rfl, rfl, rfl, rfl, rfl, rfl, rfl, rfl, rfl, .refl _⟩

theorem FeederEvents.trans {a b c : Blocks} (h : FeederEvents a b) (k : FeederEvents b c) : FeederEvents a c where
  mq := k.mq.trans h.mq
  passes := k.passes.trans h.passes
  vt := k.vt.trans h.vt
  presence := k.presence.trans h.presence
  clcRest := k.clcRest.trans h.clcRest
  length := k.length.trans h.length
  next := k.next.trans h.next
  stopPending := k.stopPending.trans h.stopPending
  cycles := k.cycles.trans h.cycles
  latest := k.latest.trans h.latest
  link := k.link.trans h.link
  dlcRest := k.dlcRest.trans h.dlcRest
  rlc := by rw [k.rlc, h.rlc]
  po := h.po.trans k.po

/-- Events of points are among those of feeders. -/
theorem PointEvents.feederEvents (h : PointEvents a b) : FeederEvents a b where
  mq := h.mq
  passes := h.passes
  vt := h.vt
  presence := by rw [h.clc]
  clcRest := by rw [h.clc]
  length := by rw [h.sq]
  next := by rw [h.sq]
  stopPending := by rw [h.sq]
  cycles := by rw [h.sq]
  latest := by rw [h.sq]
  link := h.link
  dlcRest := h.rest
  rlc := h.rlc
  po := h.po

theorem FeederEvents.ite {c : Prop} [Decidable c] {x y : Blocks} (h : FeederEvents a x) (k : FeederEvents a y) :
    FeederEvents a (if c then x else y) := by
  split <;> assumption

theorem FeederEvents.andPoints {a b c : Blocks} (h : FeederEvents a b) (k : PointEvents b c) : FeederEvents a c :=
  h.trans k.feederEvents

theorem FeederEvents.setFeeder (h : FeederEvents a b) (f : Nat) (x : Feeder) : FeederEvents a (b.setFeeder f x) := by
  cases h; constructor <;> assumption

theorem FeederEvents.amendFeeder (h : FeederEvents a b) (f : Nat) (g : Feeder → Feeder) :
    FeederEvents a (b.amendFeeder f g) := by
  cases h; constructor <;> assumption

theorem FeederEvents.setSection (h : FeederEvents a b) (sec : Nat) (x : SectionRec) :
    FeederEvents a (b.setSection sec x) := by
  cases h; constructor <;> assumption

theorem FeederEvents.amendSection (h : FeederEvents a b) (sec : Nat) (g : SectionRec → SectionRec) :
    FeederEvents a (b.amendSection sec g) := by
  cases h; constructor <;> assumption

theorem FeederEvents.setLeader (h : FeederEvents a b) (sec : Nat) (l : Option Nat) :
    FeederEvents a (setLeader sec l b) :=
  h.amendSection sec _

theorem FeederEvents.withPermits (h : FeederEvents a b) (ps : List Permit) : FeederEvents a { b with permits := ps } := by
  cases h; constructor <;> assumption

theorem FeederEvents.withInFlight (h : FeederEvents a b) (x : Option Conversion) :
    FeederEvents a { b with clc := { b.clc with inFlight := x } } := by
  cases h; constructor <;> assumption

/-- The insert queue, the wait list, the mode and the settle delay of SQ are written. -/
theorem FeederEvents.withSq (h : FeederEvents a b) (slots : Vector (Option ScanEntry) 48) (m : SqMode) (t : Option Timer)
    (is : List Insert) (sv : Bool) (ws : List SlotRequest) :
    FeederEvents a
      { b with sq := { b.sq with slots := slots, mode := m, settle := t, inserts := is, serving := sv, waiting := ws } } := by
  cases h; constructor <;> assumption

theorem FeederEvents.say (h : FeederEvents a b) (e : Env) (n : NoticeBody) : FeederEvents a (say e n b) :=
  h.andPoints ((PointEvents.refl b).say e n)

theorem FeederEvents.sayAll (h : FeederEvents a b) (e : Env) (ns : List NoticeBody) : FeederEvents a (sayAll e ns b) :=
  h.andPoints ((PointEvents.refl b).sayAll e ns)

theorem FeederEvents.sayFeeder (h : FeederEvents a b) (e : Env) (f : Nat) : FeederEvents a (sayFeeder e f b) :=
  h.andPoints ((PointEvents.refl b).sayFeeder e f)

theorem FeederEvents.saySection (h : FeederEvents a b) (e : Env) (sec : Nat) : FeederEvents a (saySection e sec b) :=
  h.andPoints ((PointEvents.refl b).saySection e sec)

theorem FeederEvents.sectionPower (h : FeederEvents a b) (e : Env) (sec : Nat) :
    FeederEvents a (sectionPower e sec b) :=
  h.andPoints ((PointEvents.refl b).sectionPower e sec)

theorem FeederEvents.foldl {α : Type} (f : Blocks → α → Blocks)
    (hf : ∀ c x, FeederEvents a c → FeederEvents a (f c x)) (xs : List α) (h : FeederEvents a b) :
    FeederEvents a (xs.foldl f b) := by
  induction xs generalizing b with
  | nil => exact h
  | cons x xs ih => exact ih (hf b x h)

theorem FeederEvents.clearMonitor (h : FeederEvents a b) (sec : Nat) : FeederEvents a (clearMonitor sec b) := by
  unfold Machine.clearMonitor
  split
  · exact h
  · exact h.withSq _ _ _ _ _ _

theorem FeederEvents.armSection (h : FeederEvents a b) (e : Env) (sec : Nat) : FeederEvents a (armSection e sec b) :=
  FeederEvents.foldl _ (fun _ f hc => hc.amendFeeder f _) _ h

theorem FeederEvents.deriveSection (h : FeederEvents a b) (e : Env) (sec : Nat) :
    FeederEvents a (deriveSection e sec b) := by
  unfold Machine.deriveSection
  split
  · exact h
  · dsimp only
    split
    · exact h
    · refine FeederEvents.sectionPower (FeederEvents.andPoints ?_ ((PointEvents.refl _).broadcast e sec _ _)) e sec
      refine FeederEvents.saySection ?_ e sec
      split <;> split <;> first
        | exact ((h.clearMonitor sec).setSection sec _).armSection e sec
        | exact (h.clearMonitor sec).setSection sec _
        | exact (h.setSection sec _).armSection e sec
        | exact h.setSection sec _

theorem FeederEvents.setLowVoltage (h : FeederEvents a b) (e : Env) (sec : Nat) (on : Bool) :
    FeederEvents a (setLowVoltage e sec on b) := by
  unfold Machine.setLowVoltage
  repeat' split
  all_goals first
    | exact h
    | exact ((h.setSection sec _).saySection e sec).sectionPower e sec

theorem FeederEvents.decidePermit (h : FeederEvents a b) (e : Env) (p : Permit) : FeederEvents a (decidePermit e b p) := by
  unfold Machine.decidePermit
  dsimp only
  split
  · exact h
  · exact (h.withPermits _).say e _

theorem FeederEvents.feederChanged (h : FeederEvents a b) (e : Env) (sec : Nat) :
    FeederEvents a (feederChanged e sec b) := by
  unfold Machine.feederChanged decidePermits
  exact FeederEvents.foldl _ (fun c p hc => hc.decidePermit e p) _ (h.deriveSection e sec)

/-- A change of a feeder's state. -/
theorem FeederEvents.moveFeeder (h : FeederEvents a b) (e : Env) (f : Nat) (new : FeederState) (set : Feeder → Feeder)
    (ns : List NoticeBody) : FeederEvents a (moveFeeder e f new set ns b) := by
  unfold Machine.moveFeeder
  split
  · exact h
  · have k (y : Feeder) (sec : Nat) (c : Prop) [Decidable c] :
        FeederEvents a (Machine.sayFeeder e f (Machine.sayAll e ns
          (if c then Machine.setLeader sec none (b.setFeeder f y) else b.setFeeder f y))) :=
      FeederEvents.sayFeeder
        (FeederEvents.sayAll (FeederEvents.ite ((h.setFeeder f y).setLeader sec none) (h.setFeeder f y)) e ns) e f
    exact FeederEvents.ite (k _ _ _) ((k _ _ _).feederChanged e _)

theorem FeederEvents.giveRole (h : FeederEvents a b) (e : Env) (f : Nat) (c : Cause) :
    FeederEvents a (giveRole e f c b) := by
  unfold Machine.giveRole
  split
  · exact h
  · dsimp only
    split
    · exact h
    · split
      · exact (h.setFeeder f _).setLeader _ _
      · exact h.setFeeder f _

theorem FeederEvents.enterTripping (h : FeederEvents a b) (e : Env) (f : Nat) (c : Cause) (mark : Bool)
    (sample : Option Sample) (ns : List NoticeBody) : FeederEvents a (enterTripping e f c mark sample ns b) :=
  (h.giveRole e f c).moveFeeder e f _ _ _

theorem FeederEvents.freshDeadTime (h : FeederEvents a b) (e : Env) (f : Nat) (set : Feeder → Feeder)
    (ns : List NoticeBody) : FeederEvents a (freshDeadTime e f set ns b) := by
  unfold Machine.freshDeadTime
  split
  · exact h
  · exact h.moveFeeder e f _ _ _

theorem FeederEvents.finishTrip (h : FeederEvents a b) (e : Env) (f : Nat) (c : Cause) (ns : List NoticeBody) :
    FeederEvents a (finishTrip e f c ns b) := by
  unfold Machine.finishTrip
  split
  · exact h
  · dsimp only
    split
    · exact (h.moveFeeder e f _ _ _).freshDeadTime e f _ _
    · exact h.moveFeeder e f _ _ _

theorem FeederEvents.completeTrip (h : FeederEvents a b) (e : Env) (f : Nat) : FeederEvents a (completeTrip e f b) := by
  unfold Machine.completeTrip
  repeat' split
  all_goals first
    | exact h
    | exact h.finishTrip e f _ _

theorem FeederEvents.completeIfOpen (h : FeederEvents a b) (e : Env) (f : Nat) :
    FeederEvents a (completeIfOpen e f b) := by
  unfold Machine.completeIfOpen
  split
  · exact h.completeTrip e f
  · exact h

/-! ## Inserts -/

theorem FeederEvents.convert (h : FeederEvents a b) (e : Env) (ch : Nat) (o : ConversionOwner) :
    FeederEvents a (convert e ch o b) :=
  h.withInFlight _

theorem FeederEvents.convertEntry (h : FeederEvents a b) (e : Env) : FeederEvents a (convertEntry e b) := by
  unfold Machine.convertEntry
  split
  · exact h
  · exact (h.withSq _ _ _ _ _ _).convert e _ _

theorem FeederEvents.convertInsert (h : FeederEvents a b) (e : Env) : FeederEvents a (convertInsert e b) := by
  unfold Machine.convertInsert
  split
  · exact h
  · exact (h.withSq _ _ _ _ _ _).convert e _ _

theorem FeederEvents.beginEntry (h : FeederEvents a b) (e : Env) : FeederEvents a (beginEntry e b) := by
  unfold Machine.beginEntry
  split
  · exact h
  · dsimp only
    split
    · exact (h.withSq _ _ _ _ _ _).convertEntry e
    · exact h.withSq _ _ _ _ _ _

theorem FeederEvents.carryOn (h : FeederEvents a b) (e : Env) : FeederEvents a (carryOn e b) := by
  unfold Machine.carryOn
  repeat' split
  all_goals first
    | exact h
    | exact h.convertEntry e
    | exact h.convertInsert e
    | exact h.beginEntry e

theorem FeederEvents.enterInsert (h : FeederEvents a b) (e : Env) (k : InsertKind) (who : Nat) :
    FeederEvents a (enterInsert e k who b) := by
  unfold Machine.enterInsert
  dsimp only
  split
  · exact (h.withSq _ _ _ _ _ _).carryOn e
  · exact h.withSq _ _ _ _ _ _

theorem FeederEvents.askInsert (h : FeederEvents a b) (e : Env) (k : InsertKind) (f : Nat) :
    FeederEvents a (askInsert e k f b) := by
  unfold Machine.askInsert
  split
  · exact h.enterInsert e k f
  · exact h.withSq _ _ _ _ _ _

theorem FeederEvents.admitWaiter (h : FeederEvents a b) (e : Env) : FeederEvents a (admitWaiter e b) := by
  unfold Machine.admitWaiter
  split
  · exact h
  · exact ((h.withSq _ _ _ _ _ _).enterInsert e _ _).moveFeeder e _ _ _ _

theorem FeederEvents.withdrawInsert (h : FeederEvents a b) (e : Env) (f : Nat) :
    FeederEvents a (withdrawInsert e f b) := by
  unfold Machine.withdrawInsert
  split
  · exact h.withSq _ _ _ _ _ _
  · split
    · exact h
    · split
      · exact (((h.withSq _ _ _ _ _ _).withInFlight _).admitWaiter e).carryOn e
      · split
        · exact (h.withSq _ _ _ _ _ _).admitWaiter e
        · exact h

/-! ## Feeder Control -/

theorem FeederEvents.enterLineTest (h : FeederEvents a b) (e : Env) (f : Nat) (set : Feeder → Feeder) :
    FeederEvents a (enterLineTest e f set b) :=
  (h.moveFeeder e f _ _ _).askInsert e _ f

theorem FeederEvents.leaveSequence (h : FeederEvents a b) (e : Env) (f : Nat) (new : FeederState)
    (set : Feeder → Feeder) (ns : List NoticeBody) : FeederEvents a (leaveSequence e f new set ns b) :=
  (h.moveFeeder e f _ _ _).withdrawInsert e f

theorem FeederEvents.followerLosesLeader (h : FeederEvents a b) (e : Env) (g : Nat) (y : Feeder) :
    FeederEvents a (followerLosesLeader e g y b) := by
  unfold Machine.followerLosesLeader
  repeat' split
  all_goals first
    | exact h
    | exact h.setFeeder g _
    | exact h.leaveSequence e g _ _ _

theorem FeederEvents.partnerConsequence (h : FeederEvents a b) (e : Env) (f : Nat) :
    FeederEvents a (partnerConsequence e f b) := by
  unfold Machine.partnerConsequence
  repeat' split
  all_goals first
    | exact h
    | exact h.followerLosesLeader e _ _
    | exact h.enterLineTest e _ _

theorem FeederEvents.settleTrip (h : FeederEvents a b) (e : Env) (f : Nat) : FeederEvents a (settleTrip e f b) := by
  unfold Machine.settleTrip
  split
  · exact (h.completeTrip e f).partnerConsequence e f
  · exact h

theorem FeederEvents.tripLive (h : FeederEvents a b) (e : Env) (f : Nat) (c : Cause) :
    FeederEvents a (tripLive e f c b) := by
  unfold Machine.tripLive
  repeat' split
  all_goals first
    | exact h
    | exact (h.enterTripping e f c _ _ _).settleTrip e f

theorem FeederEvents.takeTrip (h : FeederEvents a b) (e : Env) (f : Nat) (c : Cause) (sample : Option Sample) :
    FeederEvents a (takeTrip e f c sample b) := by
  unfold Machine.takeTrip
  split
  · exact h
  · split
    · dsimp only
      refine FeederEvents.settleTrip ?_ e f
      split
      · exact h.enterTripping e f c _ _ _
      · exact (h.enterTripping e f c _ _ _).tripLive e _ _
    · exact h

theorem FeederEvents.tripTimerExpires (h : FeederEvents a b) (e : Env) (f : Nat) :
    FeederEvents a (tripTimerExpires f e b) := by
  unfold Machine.tripTimerExpires
  split
  · exact h
  · split
    · refine FeederEvents.foldl _ (fun c g hc => ?_) _ (h.moveFeeder e f _ _ _)
      dsimp only
      split <;> split <;> first
        | exact (hc.partnerConsequence e f).tripLive e g _
        | exact hc.partnerConsequence e f
        | exact hc.tripLive e g _
        | exact hc
    · exact h

theorem FeederEvents.completeClose (h : FeederEvents a b) (e : Env) (f : Nat) :
    FeederEvents a (completeClose e f b) := by
  unfold Machine.completeClose
  split
  · exact h
  · dsimp only
    split
    · exact (((h.moveFeeder e f _ _ _).partnerConsequence e f).enterTripping e f _ _ _ _).settleTrip e f
    · exact (h.moveFeeder e f _ _ _).partnerConsequence e f

theorem FeederEvents.enterClosing (h : FeederEvents a b) (e : Env) (f : Nat) (set : Feeder → Feeder)
    (ns : List NoticeBody) : FeederEvents a (enterClosing e f set ns b) := by
  unfold Machine.enterClosing
  dsimp only
  split
  · exact (h.moveFeeder e f _ _ _).completeClose e f
  · exact h.moveFeeder e f _ _ _

theorem FeederEvents.closeTimerExpires (h : FeederEvents a b) (e : Env) (f : Nat) :
    FeederEvents a (closeTimerExpires f e b) := by
  unfold Machine.closeTimerExpires
  repeat' split
  all_goals first
    | exact h
    | exact (h.moveFeeder e f _ _ _).partnerConsequence e f

theorem FeederEvents.resetTimerExpires (h : FeederEvents a b) (e : Env) (f : Nat) :
    FeederEvents a (resetTimerExpires f e b) := by
  unfold Machine.resetTimerExpires
  split
  · exact h
  · split
    · dsimp only
      split
      · exact ((h.setFeeder f _).setLeader _ _).sayFeeder e f
      · exact (h.setFeeder f _).sayFeeder e f
    · exact h

theorem FeederEvents.contactCloses (h : FeederEvents a b) (e : Env) (f : Nat) :
    FeederEvents a (contactCloses f e b) := by
  unfold Machine.contactCloses externalClose
  repeat' split
  all_goals first
    | exact h
    | exact h.completeClose e f
    | exact (h.leaveSequence e f _ _ _).partnerConsequence e f
    | exact h.enterTripping e f _ _ _ _

theorem FeederEvents.contactOpens (h : FeederEvents a b) (e : Env) (f : Nat) : FeederEvents a (contactOpens f e b) := by
  unfold Machine.contactOpens
  repeat' split
  all_goals first
    | exact h
    | exact (h.completeTrip e f).partnerConsequence e f
    | exact ((h.giveRole e f _).finishTrip e f _ _).partnerConsequence e f

theorem FeederEvents.deadTimeEnds (h : FeederEvents a b) (e : Env) (f : Nat) : FeederEvents a (deadTimeEnds e f b) := by
  unfold Machine.deadTimeEnds
  split
  · exact h
  · dsimp only
    split
    · exact h.moveFeeder e f _ _ _
    · exact h.enterLineTest e f _

theorem FeederEvents.deadTimeExpires (h : FeederEvents a b) (e : Env) (f : Nat) :
    FeederEvents a (deadTimeExpires f e b) := by
  unfold Machine.deadTimeExpires
  repeat' split
  all_goals first
    | exact h
    | exact h.moveFeeder e f _ _ _
    | exact h.deadTimeEnds e f

theorem FeederEvents.cooled (h : FeederEvents a b) (e : Env) (f : Nat) : FeederEvents a (cooled e f b) := by
  unfold Machine.cooled
  split
  · exact h.deadTimeEnds e f
  · exact h

theorem FeederEvents.settleTimerExpires (h : FeederEvents a b) (e : Env) (f : Nat) :
    FeederEvents a (settleTimerExpires f e b) := by
  unfold Machine.settleTimerExpires
  repeat' split
  all_goals first
    | exact h
    | exact (h.moveFeeder e f _ _ _).askInsert e _ f

theorem FeederEvents.lockOut (h : FeederEvents a b) (e : Env) (f : Nat) (set : Feeder → Feeder) (ns : List NoticeBody) :
    FeederEvents a (lockOut e f set ns b) :=
  (h.moveFeeder e f _ _ _).partnerConsequence e f

theorem FeederEvents.takePrecheck (h : FeederEvents a b) (e : Env) (f : Nat) (r : PrecheckResult) (v : Option Int) :
    FeederEvents a (takePrecheck e f r v b) := by
  unfold Machine.takePrecheck
  split
  · exact h
  · split
    · cases r
      · exact h.moveFeeder e f _ _ _
      · exact (h.enterClosing e f _ _).ite ((h.lockOut e f _ _).ite (h.freshDeadTime e f _ _))
      · exact h.lockOut e f _ _
    · exact h

theorem FeederEvents.takeTest (h : FeederEvents a b) (e : Env) (f : Nat) (cls : TestClass) (r rEff : Int)
    (out : TestOutcome) (n : Nat) : FeederEvents a (takeTest e f cls r rEff out n b) := by
  unfold Machine.takeTest
  split
  · exact h
  · split
    · cases out
      · exact h.enterClosing e f _ _
      · exact (h.freshDeadTime e f _ _).ite (h.lockOut e f _ _)
      · exact h.lockOut e f _ _
    · exact h

theorem FeederEvents.onSectionFeeders (h : FeederEvents a b) (e : Env) (sec : Nat) (act : Nat → Feeder → Blocks → Blocks)
    (hact : ∀ f x c, FeederEvents a c → FeederEvents a (act f x c)) :
    FeederEvents a (onSectionFeeders e sec act b) := by
  refine FeederEvents.foldl _ (fun c f hc => ?_) _ h
  split
  · exact hc
  · exact hact _ _ _ hc

theorem FeederEvents.inhibitRises (h : FeederEvents a b) (e : Env) (sec : Nat) :
    FeederEvents a (inhibitRises e sec b) := by
  refine h.onSectionFeeders e sec _ fun f x c hc => ?_
  split
  · exact hc.leaveSequence e f _ _ _
  · exact hc.leaveSequence e f _ _ _
  · exact hc

theorem FeederEvents.inhibitReturns (h : FeederEvents a b) (e : Env) (sec : Nat) :
    FeederEvents a (inhibitReturns e sec b) := by
  refine h.onSectionFeeders e sec _ fun f x c hc => ?_
  split
  · exact hc.freshDeadTime e f _ _
  · exact hc

theorem FeederEvents.cover (h : FeederEvents a b) (e : Env) (sec : Nat) : FeederEvents a (cover e sec b) := by
  refine h.onSectionFeeders e sec _ fun f x c hc => ?_
  split
  all_goals first
    | exact hc
    | exact hc.setFeeder f _
    | exact (hc.enterTripping e f _ _ _ _).completeIfOpen e f
    | exact hc.leaveSequence e f _ _ _

theorem FeederEvents.uncover (h : FeederEvents a b) (e : Env) (sec : Nat) : FeederEvents a (uncover e sec b) := by
  refine h.onSectionFeeders e sec _ fun f x c hc => ?_
  repeat' split
  all_goals first
    | exact hc
    | exact hc.setFeeder f _
    | exact hc.moveFeeder e f _ _ _

theorem FeederEvents.closeRequested (h : FeederEvents a b) (e : Env) (f : Nat) :
    FeederEvents a (closeRequested e f b) :=
  h.enterLineTest e f _

theorem FeederEvents.resetFailed (h : FeederEvents a b) (e : Env) (f sec : Nat) :
    FeederEvents a (resetFailed f sec e b) := by
  unfold Machine.resetFailed
  split
  all_goals first
    | exact (h.moveFeeder e f _ _ _).partnerConsequence e f
    | exact h.moveFeeder e f _ _ _

theorem FeederEvents.protect (h : FeederEvents a b) (new : Settings) (e : Env) (f : Nat) :
    FeederEvents a (protect new f e b) := by
  unfold Machine.protect
  split
  · exact h
  · dsimp only
    split
    · exact (h.setFeeder f _).sayFeeder e f
    · exact h.setFeeder f _

/-! ## Permits -/

theorem FeederEvents.writePermitCount (h : FeederEvents a b) (e : Env) (sec n : Nat) :
    FeederEvents a (writePermitCount e sec n b) := by
  unfold Machine.writePermitCount
  split
  · exact h
  · dsimp only
    repeat' split
    all_goals first
      | exact ((h.setSection sec _).deriveSection e sec).cover e sec
      | exact ((h.setSection sec _).deriveSection e sec).uncover e sec
      | exact (h.setSection sec _).deriveSection e sec

theorem FeederEvents.isolate (h : FeederEvents a b) (number : Nat) (secs : List Nat) (e : Env) :
    FeederEvents a (isolate number secs e b) :=
  ((FeederEvents.foldl _ (fun _ sec hc => hc.writePermitCount e sec _) _ h).withPermits _).say e _

theorem FeederEvents.release (h : FeederEvents a b) (p : Permit) (e : Env) : FeederEvents a (release p e b) :=
  FeederEvents.foldl _ (fun _ sec hc => hc.writePermitCount e sec _) _ ((h.withPermits _).say e _)

/-! ## Protection -/

theorem FeederEvents.amendPu (h : FeederEvents a b) (f : Nat) (g : Pu → Pu) : FeederEvents a (amendPu f g b) :=
  h.amendFeeder f _

theorem FeederEvents.degraded (h : FeederEvents a b) (e : Env) (f : Nat) (r : DegradeReason) (s : Option Sample) :
    FeederEvents a (degraded e f r s b) := by
  unfold Machine.degraded
  repeat' split
  all_goals first
    | exact h
    | exact h.takeTrip e f _ _
    | exact (h.setFeeder f _).say e _

theorem FeederEvents.staleExpires (h : FeederEvents a b) (e : Env) (f : Nat) : FeederEvents a (staleExpires f e b) := by
  unfold Machine.staleExpires
  repeat' split
  all_goals first
    | exact h
    | exact (h.amendPu f _).degraded e f _ _

theorem FeederEvents.currentSample (h : FeederEvents a b) (e : Env) (f : Nat) (i : Sample) :
    FeederEvents a (currentSample e f i b) := by
  unfold Machine.currentSample
  split
  · exact h
  next x _ =>
    split
    · unfold invalidSample
      split
      · exact h
      · dsimp only
        split
        · exact (h.setFeeder f _).degraded e f _ _
        · exact h.setFeeder f _
    · have hh : FeederEvents a (heat e f i (Machine.amendPu f (Pu.takeSample e x i) b)) := by
        unfold heat
        split
        · exact h.amendPu f _
        · dsimp only
          split <;> split <;> first
            | exact (((h.amendPu f _).setFeeder f _).say e _).cooled e f
            | exact ((h.amendPu f _).setFeeder f _).say e _
            | exact ((h.amendPu f _).setFeeder f _).cooled e f
            | exact (h.amendPu f _).setFeeder f _
      unfold testCriteria
      split
      · exact hh
      · split
        · dsimp only
          split <;> first
            | exact hh.setFeeder f _
            | exact (hh.setFeeder f _).takeTrip e f _ _
        · exact hh

theorem FeederEvents.deliver (h : FeederEvents a b) (e : Env) (i : Insert) : FeederEvents a (deliver e i b) := by
  unfold Machine.deliver
  split
  · unfold finishPrecheck
    split
    · exact h
    · exact h.takePrecheck e _ _ _
  · unfold finishTest
    split
    · exact h
    · exact h.takeTest e _ _ _ _ _ _
  · unfold finishCalibration
    split
    · exact h.say e _
    · dsimp only
      split
      · exact h.say e _
      · exact (h.amendPu _ _).say e _

theorem FeederEvents.completeInsert (h : FeederEvents a b) (e : Env) (i : Insert) :
    FeederEvents a (completeInsert e i b) :=
  (((h.deliver e i).withSq _ _ _ _ _ _).admitWaiter e).carryOn e

theorem FeederEvents.insertResult (h : FeederEvents a b) (e : Env) (ch : Nat) (valid : Bool) (code : Int) :
    FeederEvents a (insertResult e ch valid code b) := by
  unfold Machine.insertResult
  split
  · exact h
  · dsimp only
    split
    · exact (h.withSq _ _ _ _ _ _).carryOn e
    · exact (h.withSq _ _ _ _ _ _).completeInsert e _

/-! ## Tracking -/

theorem FeederEvents.sectionTrip (h : FeederEvents a b) (e : Env) (sec : Option Nat) :
    FeederEvents a (sectionTrip e sec b) := by
  unfold Machine.sectionTrip
  split
  · exact h.onSectionFeeders e _ _ fun f _ c hc => hc.tripLive e f _
  · exact h

theorem FeederEvents.writeCounts (h : FeederEvents a b) (sec : Option Nat) (o i : Nat → Nat) :
    FeederEvents a (writeCounts sec o i b) := by
  unfold Machine.writeCounts
  split
  · exact h
  · exact h.amendSection _ _

theorem FeederEvents.inhibitChanged (h : FeederEvents a b) (e : Env) (sec : Option Nat) (was : Nat) :
    FeederEvents a (inhibitChanged e sec was b) := by
  unfold Machine.inhibitChanged
  split
  · exact h
  · dsimp only
    repeat' split
    all_goals first
      | exact h
      | exact h.inhibitRises e _
      | exact h.inhibitReturns e _

end Sys2Proof.Machine
end

