-- ==== Sys2Proof/Laws/Tables.lean ====
section
/-! SUPPORT. Reading a table after a write, for the tables of slots and for the records of the blocks. -/

namespace Sys2Proof.Machine

open Sys2Proof

variable {α : Type} {n : Nat}

/-- A write into a slot of the table is read back. -/
@[simp] theorem look_put_self (t : Vector (Option α) n) (i : Nat) (x : α) (h : i < n) : look (put t i x) i = some x := by
  simp [look, put, h]

/-- A write leaves every other slot as it stood. -/
theorem look_put_ne (t : Vector (Option α) n) (i j : Nat) (x : α) (h : j ≠ i) : look (put t i x) j = look t j := by
  unfold look put
  congr 1
  simp [Ne.symm h]

/-- Only a slot of the table holds a record. -/
theorem look_lt (t : Vector (Option α) n) (i : Nat) (x : α) (h : look t i = some x) : i < n := by
  by_contra hn
  simp [look, Vector.getElem?_eq_none (Nat.le_of_not_lt hn)] at h

/-- A write over a record is read back, whatever slot it is. -/
theorem look_put_of_look (t : Vector (Option α) n) (i : Nat) (x y : α) (h : look t i = some x) :
    look (put t i y) i = some y :=
  look_put_self t i y (look_lt t i x h)

/-- What any slot reads after a write. -/
theorem look_put (t : Vector (Option α) n) (i j : Nat) (x : α) :
    look (put t i x) j = if j = i ∧ i < n then some x else look t j := by
  by_cases h : j = i
  · subst h
    by_cases hn : j < n
    · simp [hn]
    · have h1 : look (put t j x) j = none := by
        simp [look, put, Vector.getElem?_eq_none (Nat.le_of_not_lt hn)]
      have h2 : look t j = none := by simp [look, Vector.getElem?_eq_none (Nat.le_of_not_lt hn)]
      simp [h1, h2, hn]
  · simp [look_put_ne t i j x h, h]

/-- What any slot reads after a record is amended. -/
theorem look_amend (t : Vector (Option α) n) (i j : Nat) (g : α → α) :
    look (amend t i g) j = if j = i then (look t i).map g else look t j := by
  unfold amend
  cases h : look t i with
  | none => by_cases hj : j = i <;> simp [hj, h]
  | some x =>
    simp only [look_put]
    have := look_lt t i x h
    by_cases hj : j = i <;> simp [hj, this]

@[simp] theorem look_replicate_none (i : Nat) : look (Vector.replicate n (none : Option α)) i = none := by
  by_cases h : i < n <;> simp [look, h]

@[simp] theorem look_ofFn (f : Fin n → Option α) (i : Nat) :
    look (Vector.ofFn f) i = if h : i < n then f ⟨i, h⟩ else none := by
  by_cases h : i < n <;> simp [look, h]

/-! ## Feeders, sections, points -/

theorem Blocks.feeder?_setFeeder (b : Blocks) (f g : Nat) (x : Feeder) :
    (b.setFeeder f x).feeder? g = if g = f ∧ f < 16 then some x else b.feeder? g :=
  look_put _ _ _ _

theorem Blocks.feeder?_setFeeder_self (b : Blocks) (f : Nat) (x y : Feeder) (h : b.feeder? f = some x) :
    (b.setFeeder f y).feeder? f = some y :=
  look_put_of_look _ _ _ _ h

theorem Blocks.feeder?_setFeeder_ne (b : Blocks) (f g : Nat) (x : Feeder) (h : g ≠ f) :
    (b.setFeeder f x).feeder? g = b.feeder? g :=
  look_put_ne _ _ _ _ h

theorem Blocks.feeder?_amendFeeder (b : Blocks) (f g : Nat) (h : Feeder → Feeder) :
    (b.amendFeeder f h).feeder? g = if g = f then (b.feeder? f).map h else b.feeder? g :=
  look_amend _ _ _ _

theorem Blocks.section?_setSection (b : Blocks) (sec k : Nat) (x : SectionRec) :
    (b.setSection sec x).section? k = if k = sec ∧ sec < 24 then some x else b.section? k :=
  look_put _ _ _ _

theorem Blocks.section?_setSection_self (b : Blocks) (sec : Nat) (x y : SectionRec) (h : b.section? sec = some x) :
    (b.setSection sec y).section? sec = some y :=
  look_put_of_look _ _ _ _ h

theorem Blocks.section?_setSection_ne (b : Blocks) (sec k : Nat) (x : SectionRec) (h : k ≠ sec) :
    (b.setSection sec x).section? k = b.section? k :=
  look_put_ne _ _ _ _ h

theorem Blocks.section?_amendSection (b : Blocks) (sec k : Nat) (g : SectionRec → SectionRec) :
    (b.amendSection sec g).section? k = if k = sec then (b.section? sec).map g else b.section? k :=
  look_amend _ _ _ _

theorem Blocks.point?_setPoint (b : Blocks) (pt q : Nat) (x : Point) :
    (b.setPoint pt x).point? q = if q = pt ∧ pt < 16 then some x else b.point? q :=
  look_put _ _ _ _

theorem Blocks.point?_setPoint_self (b : Blocks) (pt : Nat) (x y : Point) (h : b.point? pt = some x) :
    (b.setPoint pt y).point? pt = some y :=
  look_put_of_look _ _ _ _ h

theorem Blocks.point?_setPoint_ne (b : Blocks) (pt q : Nat) (x : Point) (h : q ≠ pt) :
    (b.setPoint pt x).point? q = b.point? q :=
  look_put_ne _ _ _ _ h

theorem Blocks.point?_amendPoint (b : Blocks) (pt q : Nat) (g : Point → Point) :
    (b.amendPoint pt g).point? q = if q = pt then (b.point? pt).map g else b.point? q :=
  look_amend _ _ _ _

end Sys2Proof.Machine
end

