-- ==== Sys2Proof/Laws/Records.lean ====
section
/-! SUPPORT. What the shared operations leave of the records they write, said once for each: connections, thermal values,
counts, permit numbers, frames of points, and that outputs follow states. -/

namespace Sys2Proof.Machine

open Sys2Proof

/-! ## What a write of a record leaves -/

/-- The outputs are those of the state (R65). -/
def Feeder.Follows (x : Feeder) : Prop :=
  (x.tripCoil = true ↔ x.state = .tripping) ∧ (x.closeCoil = true ↔ x.state = .closing) ∧
    (x.testContactor = true ↔ x.state = .lineTest .settle ∨ x.state = .lineTest .test)

/-- A feeder's record written as Feeder Control writes it. -/
structure FeederStep (x y : Feeder) : Prop where
  conn : y.conn = x.conn
  theta : y.pu.theta = x.pu.theta
  offset : y.pu.offset = x.pu.offset
  ring : y.pu.ring = x.pu.ring ∨ y.pu.ring = []
  follows : x.Follows → y.Follows

/-- A section's record written as the Section Monitor writes it. -/
structure SectionStep (x y : SectionRec) : Prop where
  permits : y.permits = x.permits
  occupancy : y.occupancy = x.occupancy
  inhibit : y.inhibit = x.inhibit
  state : y.state = x.state ∨ (y.state = .isolated ↔ 0 < x.permits)

/-- A point's record written by an event of Point Control, RESERVE apart. -/
structure PointStep (x y : Point) : Prop where
  frame : y.frame = x.frame
  queue : (y.queue.map (·.rtag)).Sublist (x.queue.map (·.rtag))
  count : y.count ≤ max 3 x.count

theorem FeederStep.refl (x : Feeder) : FeederStep x x := ⟨rfl, rfl, rfl, .inl rfl, id⟩

theorem FeederStep.trans {x y z : Feeder} (h : FeederStep x y) (k : FeederStep y z) : FeederStep x z where
  conn := k.conn.trans h.conn
  theta := k.theta.trans h.theta
  offset := k.offset.trans h.offset
  ring := by
    rcases k.ring with k | k
    · rw [k]; exact h.ring
    · exact .inr k
  follows := fun hx => k.follows (h.follows hx)

theorem SectionStep.refl (x : SectionRec) : SectionStep x x := ⟨rfl, rfl, rfl, .inl rfl⟩

theorem SectionStep.trans {x y z : SectionRec} (h : SectionStep x y) (k : SectionStep y z) : SectionStep x z where
  permits := k.permits.trans h.permits
  occupancy := k.occupancy.trans h.occupancy
  inhibit := k.inhibit.trans h.inhibit
  state := by
    rcases k.state with k | k
    · rw [k]; exact h.state
    · rw [h.permits] at k; exact .inr k

theorem PointStep.refl (x : Point) : PointStep x x := ⟨rfl, .refl _, Nat.le_max_right _ _⟩

theorem PointStep.trans {x y z : Point} (h : PointStep x y) (k : PointStep y z) : PointStep x z where
  frame := k.frame.trans h.frame
  queue := k.queue.trans h.queue
  count := by have := h.count; have := k.count; omega

/-- The same record, or one written by `r` in its place. -/
def Kept {α : Type} (r : α → α → Prop) (x y : Option α) : Prop := Option.Rel r x y

theorem Kept.refl {α : Type} {r : α → α → Prop} (hr : ∀ x, r x x) (x : Option α) : Kept r x x := by
  cases x
  · exact .none
  · exact .some (hr _)

theorem Kept.trans {α : Type} {r : α → α → Prop} (hr : ∀ {x y z}, r x y → r y z → r x z) {x y z : Option α}
    (h : Kept r x y) (k : Kept r y z) : Kept r x z := by
  cases h with
  | none => exact k
  | some h =>
    cases k with
    | some k => exact .some (hr h k)

/-- A write of one slot keeps every slot. -/
theorem Kept.put {α : Type} {n : Nat} {r : α → α → Prop} (hr : ∀ x, r x x) (t : Vector (Option α) n) (i : Nat)
    (x y : α) (hx : look t i = some x) (h : r x y) (j : Nat) : Kept r (look t j) (look (put t i y) j) := by
  by_cases hj : j = i
  · subst hj
    rw [hx, look_put_of_look t j x y hx]
    exact .some h
  · rw [look_put_ne t i j y hj]
    exact .refl hr _

theorem Kept.amend {α : Type} {n : Nat} {r : α → α → Prop} (hr : ∀ x, r x x) (t : Vector (Option α) n) (i : Nat)
    (g : α → α) (h : ∀ x, r x (g x)) (j : Nat) : Kept r (look t j) (look (amend t i g) j) := by
  unfold Machine.amend
  cases hx : look t i with
  | none => exact .refl hr _
  | some x => exact Kept.put hr t i x (g x) hx (h x) j

/-! ## What an event leaves of the tables -/

/-- From `b` to `c`, every record is kept, or written as its owner writes it. -/
structure RecordsKept (b c : Blocks) : Prop where
  feeders : ∀ f, Kept FeederStep (b.feeder? f) (c.feeder? f)
  sections : ∀ sec, Kept SectionStep (b.section? sec) (c.section? sec)
  points : ∀ pt, Kept PointStep (b.point? pt) (c.point? pt)
  permits : (b.permits.map (·.number)).Nodup →
    c.permits.map (fun p => (p.number, p.secs)) = b.permits.map fun p => (p.number, p.secs)

theorem RecordsKept.refl (b : Blocks) : RecordsKept b b :=
  ⟨fun _ => .refl .refl _, fun _ => .refl .refl _, fun _ => .refl .refl _, fun _ => rfl⟩

/-- Equal numbers and sections are equal numbers. -/
theorem numbers_of_permits {ps qs : List Permit}
    (h : qs.map (fun p => (p.number, p.secs)) = ps.map fun p => (p.number, p.secs)) :
    qs.map (·.number) = ps.map (·.number) := by
  have := congrArg (List.map Prod.fst) h
  simpa [List.map_map, Function.comp_def] using this

theorem RecordsKept.trans {a b c : Blocks} (h : RecordsKept a b) (k : RecordsKept b c) : RecordsKept a c :=
  ⟨fun f => (h.feeders f).trans .trans (k.feeders f), fun s => (h.sections s).trans .trans (k.sections s),
    fun p => (h.points p).trans .trans (k.points p),
    fun hn => (k.permits (by rw [numbers_of_permits (h.permits hn)]; exact hn)).trans (h.permits hn)⟩

theorem RecordsKept.ite {c : Prop} [Decidable c] {a x y : Blocks} (h : RecordsKept a x) (k : RecordsKept a y) :
    RecordsKept a (if c then x else y) := by
  split <;> assumption

variable {a b : Blocks}

/-- Whatever leaves the four tables alone keeps every record. -/
theorem RecordsKept.same {c : Blocks} (h : RecordsKept a b) (hf : c.feeders = b.feeders) (hs : c.sections = b.sections)
    (hp : c.points = b.points) (hq : c.permits = b.permits) : RecordsKept a c := by
  refine h.trans ⟨fun f => ?_, fun s => ?_, fun p => ?_, fun _ => by rw [hq]⟩
  · rw [Blocks.feeder?, Blocks.feeder?, hf]; exact .refl .refl _
  · rw [Blocks.section?, Blocks.section?, hs]; exact .refl .refl _
  · rw [Blocks.point?, Blocks.point?, hp]; exact .refl .refl _

theorem RecordsKept.setFeeder (h : RecordsKept a b) {f : Nat} {x y : Feeder} (hx : b.feeder? f = some x)
    (hs : FeederStep x y) : RecordsKept a (b.setFeeder f y) :=
  h.trans ⟨Kept.put .refl _ _ _ _ hx hs, fun _ => .refl .refl _, fun _ => .refl .refl _, fun _ => rfl⟩

theorem RecordsKept.amendFeeder (h : RecordsKept a b) (f : Nat) (g : Feeder → Feeder) (hg : ∀ x, FeederStep x (g x)) :
    RecordsKept a (b.amendFeeder f g) :=
  h.trans ⟨Kept.amend .refl _ _ _ hg, fun _ => .refl .refl _, fun _ => .refl .refl _, fun _ => rfl⟩

theorem RecordsKept.setSection (h : RecordsKept a b) {sec : Nat} {x y : SectionRec} (hx : b.section? sec = some x)
    (hs : SectionStep x y) : RecordsKept a (b.setSection sec y) :=
  h.trans ⟨fun _ => .refl .refl _, Kept.put .refl _ _ _ _ hx hs, fun _ => .refl .refl _, fun _ => rfl⟩

theorem RecordsKept.setLeader (h : RecordsKept a b) (sec : Nat) (l : Option Nat) :
    RecordsKept a (setLeader sec l b) :=
  h.trans ⟨fun _ => .refl .refl _, Kept.amend .refl _ _ _ fun _ => ⟨rfl, rfl, rfl, .inl rfl⟩, fun _ => .refl .refl _,
    fun _ => rfl⟩

theorem RecordsKept.setPoint (h : RecordsKept a b) {pt : Nat} {x y : Point} (hx : b.point? pt = some x)
    (hs : PointStep x y) : RecordsKept a (b.setPoint pt y) :=
  h.trans ⟨fun _ => .refl .refl _, fun _ => .refl .refl _, Kept.put .refl _ _ _ _ hx hs, fun _ => rfl⟩

theorem RecordsKept.amendPoint (h : RecordsKept a b) (pt : Nat) (g : Point → Point) (hg : ∀ x, PointStep x (g x)) :
    RecordsKept a (b.amendPoint pt g) :=
  h.trans ⟨fun _ => .refl .refl _, fun _ => .refl .refl _, Kept.amend .refl _ _ _ hg, fun _ => rfl⟩

theorem RecordsKept.say (h : RecordsKept a b) (e : Env) (n : NoticeBody) : RecordsKept a (say e n b) :=
  h.same rfl rfl rfl rfl

theorem RecordsKept.sayAll (h : RecordsKept a b) (e : Env) (ns : List NoticeBody) : RecordsKept a (sayAll e ns b) := by
  unfold Machine.sayAll
  induction ns generalizing b with
  | nil => exact h
  | cons n ns ih => exact ih (h.say e n)

theorem RecordsKept.handTelegram (h : RecordsKept a b) (e : Env) (t : TxTelegram) :
    RecordsKept a (handTelegram e t b) := by
  have k := (PointEvents.refl b).handTelegram e t
  refine h.same k.feeders k.sections ?_ k.permits
  unfold Machine.handTelegram
  repeat' split
  all_goals rfl

theorem RecordsKept.enqueue (h : RecordsKept a b) (pt : Nat) : RecordsKept a (enqueue pt b) := h.same rfl rfl rfl rfl

theorem RecordsKept.unqueue (h : RecordsKept a b) (pt : Nat) : RecordsKept a (unqueue pt b) := h.same rfl rfl rfl rfl

theorem RecordsKept.foldl {α : Type} (f : Blocks → α → Blocks) (hf : ∀ c x, RecordsKept a c → RecordsKept a (f c x))
    (xs : List α) (h : RecordsKept a b) : RecordsKept a (xs.foldl f b) := by
  induction xs generalizing b with
  | nil => exact h
  | cons x xs ih => exact ih (hf b x h)

/-! ## Points -/

/-- A point written with its frame, reservations and collector count as they stood. -/
theorem PointStep.same {x y : Point} (hf : y.frame = x.frame) (hq : y.queue = x.queue) (hc : y.count = x.count) :
    PointStep x y :=
  ⟨hf, by rw [hq], by omega⟩

theorem PointStep.headWaiting (x : Point) : PointStep x x.headWaiting := by
  unfold Point.headWaiting
  split
  · exact .refl _
  next r q h => exact ⟨rfl, by simp [h], Nat.le_max_right _ _⟩

theorem PointStep.withoutHead (x : Point) : PointStep x x.withoutHead :=
  ⟨rfl, by simpa [Point.withoutHead] using (List.tail_sublist _).map _, Nat.le_max_right _ _⟩

theorem RecordsKept.endDrive (h : RecordsKept a b) (e : Env) (pt : Nat) (resync : Bool) (r : DriveResult) :
    RecordsKept a (endDrive e pt resync r b) := by
  unfold Machine.endDrive
  split
  · exact h
  next x hx =>
    refine .ite (RecordsKept.say (.ite (RecordsKept.unqueue (h.setPoint hx ?_) pt) (h.setPoint hx ?_)) e _)
      (.ite (RecordsKept.unqueue (h.setPoint hx ?_) pt) (h.setPoint hx ?_))
    all_goals exact .same rfl rfl rfl

theorem RecordsKept.headService (h : RecordsKept a b) (e : Env) (pt : Nat) : RecordsKept a (headService e pt b) := by
  unfold Machine.headService
  split
  · exact h
  next x hx =>
    split
    · exact h.setPoint hx ((PointStep.headWaiting x).trans (.same rfl rfl rfl))
    · split
      · exact h.setPoint hx (.same rfl rfl rfl)
      next r q hq =>
        split
        · exact h.setPoint hx (.same rfl rfl rfl)
        · split
          · refine RecordsKept.say (h.setPoint hx ?_) e _
            exact ⟨rfl, by simp [hq], Nat.le_max_right _ _⟩
          · repeat' split
            all_goals first
              | (refine RecordsKept.setPoint h hx ?_; exact .same rfl rfl rfl)
              | (refine RecordsKept.enqueue (h.setPoint hx ?_) pt; exact .same rfl rfl rfl)

theorem RecordsKept.expireOverdue (h : RecordsKept a b) (e : Env) (pt : Nat) :
    RecordsKept a (expireOverdue e pt b) := by
  unfold Machine.expireOverdue
  split
  · exact h
  next x hx =>
    split
    · exact h
    · split
      · exact (h.setPoint hx (.withoutHead x)).say e _
      · exact h

theorem RecordsKept.settlePoint (h : RecordsKept a b) (e : Env) (pt : Nat) : RecordsKept a (settlePoint e pt b) := by
  unfold Machine.settlePoint
  have h' := h.expireOverdue e pt
  dsimp only
  repeat' split
  all_goals first
    | exact h'
    | exact h'.headService e pt
    | exact (h'.endDrive e pt _ _).headService e pt

theorem RecordsKept.endPointEvent (h : RecordsKept a b) (e : Env) (pt : Nat)
    (before : Option (Point × Contact × Contact)) : RecordsKept a (endPointEvent e pt before b) := by
  unfold Machine.endPointEvent
  have h' := h.settlePoint e pt
  dsimp only
  repeat' split
  all_goals first
    | exact h'
    | exact h'.say e _

theorem RecordsKept.pointEvent (h : RecordsKept a b) (e : Env) (pt : Nat) (body : Blocks → Blocks)
    (hb : ∀ c, RecordsKept a c → RecordsKept a (body c)) : RecordsKept a (pointEvent e pt body b) :=
  (hb b h).endPointEvent e pt _

theorem RecordsKept.sectionPower (h : RecordsKept a b) (e : Env) (sec : Nat) : RecordsKept a (sectionPower e sec b) := by
  unfold Machine.sectionPower
  refine RecordsKept.foldl _ (fun c pt hc => hc.pointEvent e pt _ fun d hd => ?_) _ h
  repeat' split
  all_goals first
    | exact hd
    | exact hd.endDrive e pt _ _

theorem RecordsKept.contactsChanged (h : RecordsKept a b) (old e : Env) (pt : Nat) :
    RecordsKept a (contactsChanged old e pt b) := by
  unfold Machine.contactsChanged
  split
  · exact h
  next x hx =>
    dsimp only
    have hw := PointStep.headWaiting x
    have h1 := h.say e (.detectionFault pt (old.position pt x.drive))
    have h2 := h.say e (.pointMoved pt (old.position pt x.drive) (e.position pt x.drive) x.drive)
    have h3 := h1.say e (.pointMoved pt (old.position pt x.drive) (e.position pt x.drive) x.drive)
    have hw2 := h2.setPoint (y := x.headWaiting) (x := x) hx hw
    have hw3 := h3.setPoint (y := x.headWaiting) (x := x) hx hw
    repeat' split
    all_goals first
      | exact h
      | exact h1
      | exact h2
      | exact h3
      | exact hw2
      | exact hw3
      | exact h.endDrive e pt _ _
      | exact h1.endDrive e pt _ _

theorem RecordsKept.countPass (h : RecordsKept a b) (e : Env) (pt : Nat) (r : DetectorRole) (det : Nat) (d : Dir) :
    RecordsKept a (countPass e pt r det d b) := by
  unfold Machine.countPass
  split
  · exact h
  next x hx =>
    dsimp only
    generalize hn : (if passEnters x.frame r d = true then min Config.collectorMax (x.count + 1) else x.count - 1) = n
    have hb : n ≤ max 3 x.count := by subst hn; unfold Config.collectorMax; split <;> omega
    generalize (if passEnters x.frame r d = true then decide (x.count = Config.collectorMax) else decide (x.count = 0))
      = bound
    have k := h.setPoint (y := { x with count := n, countFault := x.countFault || bound }) hx ⟨rfl, .refl _, hb⟩
    have kx := Blocks.point?_setPoint_self b pt x { x with count := n, countFault := x.countFault || bound } hx
    have k2 := k.say e (.countFault pt det d n)
    have w := k.setPoint (y := Point.withoutHead { x with count := n, countFault := x.countFault || bound }) kx
      (.withoutHead _)
    have w2 := k2.setPoint (y := Point.withoutHead { x with count := n, countFault := x.countFault || bound })
      (x := { x with count := n, countFault := x.countFault || bound }) kx (.withoutHead _)
    repeat' split
    all_goals first
      | exact k
      | exact k2
      | exact w
      | exact w2
      | exact w.say e _
      | exact w2.say e _

theorem RecordsKept.pointPass (h : RecordsKept a b) (e : Env) (det : Nat) (d : Dir) :
    RecordsKept a (pointPass e det d b) := by
  unfold Machine.pointPass
  split
  · exact h
  · exact h.pointEvent e _ _ fun c hc => hc.countPass e _ _ _ _

theorem RecordsKept.holdExpires (h : RecordsKept a b) (e : Env) (pt : Nat) : RecordsKept a (holdExpires e pt b) := by
  unfold Machine.holdExpires
  split
  · exact h
  next x hx =>
    split
    · exact h
    next r q hq =>
      split
      · split
        · exact (h.setPoint hx (.withoutHead x)).say e _
        · refine h.setPoint hx ?_
          exact ⟨rfl, by simp [hq], Nat.le_max_right _ _⟩
      · exact h

theorem RecordsKept.blockPoint (h : RecordsKept a b) (e : Env) (pt det v : Nat) :
    RecordsKept a (blockPoint e pt det v b) := by
  unfold Machine.blockPoint
  refine h.pointEvent e pt _ fun c hc => ?_
  split
  · exact hc
  next x hx =>
    have k := hc.setPoint (y := { x with blocked := true }) hx (.same rfl rfl rfl)
    exact .ite (k.say e _) ((k.say e _).handTelegram e _)

theorem RecordsKept.removeReservations (h : RecordsKept a b) (e : Env) (pt : Nat) (gone : Reservation → Bool) :
    RecordsKept a (removeReservations e pt gone b) := by
  unfold Machine.removeReservations
  split
  · exact h
  next x hx =>
    refine .ite (RecordsKept.endDrive (h.setPoint hx ?_) e pt _ _) (h.setPoint hx ?_)
    all_goals exact ⟨rfl, List.filter_sublist.map _, Nat.le_max_right _ _⟩

theorem RecordsKept.cancelVehicle (h : RecordsKept a b) (e : Env) (v : Nat) : RecordsKept a (cancelVehicle e v b) := by
  unfold Machine.cancelVehicle
  refine RecordsKept.foldl _ (fun c pt hc => ?_) _ h
  split
  · exact hc
  · exact hc.pointEvent e pt _ fun d hd => hd.removeReservations e pt _

theorem RecordsKept.pointTimerExpires (h : RecordsKept a b) (e : Env) (pt : Nat) :
    RecordsKept a (pointTimerExpires e pt b) := by
  unfold Machine.pointTimerExpires
  split
  · exact h
  next x hx =>
    split
    · split
      · refine RecordsKept.enqueue (h.setPoint hx ?_) pt
        exact .same rfl rfl rfl
      · exact h.endDrive e pt _ _
    · exact h

theorem RecordsKept.busyExpires (h : RecordsKept a b) (e : Env) (pt : Nat) : RecordsKept a (busyExpires pt e b) := by
  unfold Machine.busyExpires
  split
  · exact h
  next x hx =>
    split
    · refine RecordsKept.enqueue (h.setPoint hx ?_) pt
      exact .same rfl rfl rfl
    · exact h

/-! ## The drive link -/

theorem RecordsKept.withLink (h : RecordsKept a b) (x : Dlc) : RecordsKept a { b with dlc := x } :=
  h.same rfl rfl rfl rfl

theorem RecordsKept.sendDrive (h : RecordsKept a b) (e : Env) (pt : Nat) (resync : Bool) :
    RecordsKept a (sendDrive e pt resync b) := by
  unfold Machine.sendDrive
  split
  · exact h
  next x hx =>
    refine RecordsKept.withLink (h.setPoint hx ?_) _
    exact .same rfl rfl rfl

theorem RecordsKept.discardRetries (h : RecordsKept a b) (pt : Nat) : RecordsKept a (discardRetries pt b) :=
  h.amendPoint pt (fun x => { x with link := { x.link with sends := 0, bitSent := false } }) fun _ => .same rfl rfl rfl

theorem RecordsKept.sendThrow (h : RecordsKept a b) (e : Env) (pt : Nat) : RecordsKept a (sendThrow e pt b) := by
  unfold Machine.sendThrow
  split
  · exact h
  · exact .ite (h.sendDrive e pt _) ((h.discardRetries pt).endDrive e pt _ _)

theorem RecordsKept.serveDriveQueue (n : Nat) (h : RecordsKept a b) (e : Env) :
    RecordsKept a (serveDriveQueue n e b) := by
  induction n generalizing b with
  | zero => exact h
  | succ n ih =>
    unfold Machine.serveDriveQueue
    split
    · exact h
    · split
      · exact h
      · dsimp only
        split
        · exact (h.withLink _).sendDrive e _ _
        · exact (h.withLink _).sendDrive e _ _
        · exact ih ((h.withLink _).pointEvent e _ _ fun c hc => hc.sendThrow e _)
        · exact ih (h.withLink _)

theorem RecordsKept.throwTaken (h : RecordsKept a b) (e : Env) (pt : Nat) : RecordsKept a (throwTaken e pt b) := by
  unfold Machine.throwTaken
  split
  · exact h
  next x hx =>
    have k {y : Point} (hy : PointStep x y) : RecordsKept a (b.setPoint pt y) := h.setPoint hx hy
    refine .ite (.ite (RecordsKept.endDrive (k ?_) e pt _ _) (k ?_)) (RecordsKept.endDrive (k ?_) e pt _ _)
    all_goals exact .same rfl rfl rfl

theorem RecordsKept.startBusyDelay (h : RecordsKept a b) (e : Env) (pt : Nat) :
    RecordsKept a (startBusyDelay e pt b) :=
  h.amendPoint pt (fun x => { x with link := { x.link with busyDelay := some ⟨e.time, Config.busyDelayMs⟩ } })
    fun _ => .same rfl rfl rfl

theorem RecordsKept.throwEnds (h : RecordsKept a b) (e : Env) (pt : Nat) (en : DriveEnding) :
    RecordsKept a (throwEnds e pt en b) := by
  unfold Machine.throwEnds
  split
  · exact h
  · split
    · exact h.throwTaken e pt
    · exact h.throwTaken e pt
    · exact h.endDrive e pt _ _
    · exact .ite (h.startBusyDelay e pt) (h.endDrive e pt _ _)
    · exact .ite (h.sendThrow e pt) (h.endDrive e pt _ _)

theorem RecordsKept.resyncDone (h : RecordsKept a b) (pt : Nat) : RecordsKept a (resyncDone pt b) := by
  unfold Machine.resyncDone
  split
  · exact h
  next x hx =>
    split
    · refine RecordsKept.enqueue (h.setPoint hx ?_) pt
      exact .same rfl rfl rfl
    · refine h.setPoint hx ?_
      exact .same rfl rfl rfl

theorem RecordsKept.resyncFailed (h : RecordsKept a b) (e : Env) (pt : Nat) (r : DriveResult) :
    RecordsKept a (resyncFailed e pt r b) :=
  RecordsKept.endDrive (h.amendPoint pt (fun x => { x with link := { x.link with sync := .unsynchronised } })
    fun _ => .same rfl rfl rfl) e pt _ _

theorem RecordsKept.resyncEnds (h : RecordsKept a b) (e : Env) (pt : Nat) (en : DriveEnding) :
    RecordsKept a (resyncEnds e pt en b) := by
  unfold Machine.resyncEnds
  split
  · exact h
  · split
    · exact h.resyncDone pt
    · exact h.resyncDone pt
    · exact .ite (h.startBusyDelay e pt) (h.resyncFailed e pt _)
    · exact .ite (h.sendDrive e pt _) (h.resyncFailed e pt _)
    · exact .ite (h.sendDrive e pt _) (h.resyncFailed e pt _)

theorem RecordsKept.driveEnds (h : RecordsKept a b) (e : Env) (fl : DriveFlight) (en : DriveEnding) :
    RecordsKept a (driveEnds e fl en b) := by
  unfold Machine.driveEnds
  refine RecordsKept.pointEvent (h.withLink _) e _ _ fun c hc => ?_
  split
  · exact hc.resyncEnds e _ _
  · exact hc.throwEnds e _ _

theorem RecordsKept.driveAnswer (h : RecordsKept a b) (framing : Bool) (bytes : List Byte) (e : Env) :
    RecordsKept a (driveAnswer framing bytes e b) := by
  unfold Machine.driveAnswer
  split
  · exact h
  · exact h.driveEnds e _ _

theorem RecordsKept.driveExpires (h : RecordsKept a b) (e : Env) : RecordsKept a (driveExpires e b) := by
  unfold Machine.driveExpires
  repeat' split
  all_goals first
    | exact h
    | exact h.driveEnds e _ _

/-! ## Sections -/

theorem RecordsKept.saySection (h : RecordsKept a b) (e : Env) (sec : Nat) : RecordsKept a (saySection e sec b) := by
  unfold Machine.saySection
  split
  · exact h
  · exact h.say e _

theorem RecordsKept.broadcast (h : RecordsKept a b) (e : Env) (sec : Nat) (old new : SectionState) :
    RecordsKept a (broadcast e sec old new b) := by
  unfold Machine.broadcast
  repeat' split
  all_goals first
    | exact h
    | exact h.handTelegram e _

theorem RecordsKept.withSq (h : RecordsKept a b) (q : Sq) : RecordsKept a { b with sq := q } := h.same rfl rfl rfl rfl

theorem RecordsKept.withClc (h : RecordsKept a b) (c : Clc) : RecordsKept a { b with clc := c } := h.same rfl rfl rfl rfl

theorem RecordsKept.clearMonitor (h : RecordsKept a b) (sec : Nat) : RecordsKept a (clearMonitor sec b) := by
  unfold Machine.clearMonitor
  split
  · exact h
  · exact h.withSq _

theorem clearMonitor_sections (sec : Nat) (b : Blocks) : (clearMonitor sec b).sections = b.sections := by
  unfold clearMonitor
  split <;> rfl

theorem RecordsKept.armSection (h : RecordsKept a b) (e : Env) (sec : Nat) : RecordsKept a (armSection e sec b) :=
  RecordsKept.foldl _ (fun _ f hc => hc.amendFeeder f (fun x => { x with liveArmed := true })
    fun _ => ⟨rfl, rfl, rfl, .inl rfl, id⟩) _ h

/-- The state derived is ISOLATED exactly while a permit names the section (R91). -/
theorem derivedState_isolated (e : Env) (b : Blocks) (sec n : Nat) : derivedState e b sec n = .isolated ↔ 0 < n := by
  unfold derivedState
  split
  · simp [*]
  · split <;> simp [*]

theorem RecordsKept.deriveSection (h : RecordsKept a b) (e : Env) (sec : Nat) :
    RecordsKept a (deriveSection e sec b) := by
  unfold Machine.deriveSection
  split
  · exact h
  next x hx =>
    dsimp only
    split
    · exact h
    · have k (y : SectionRec) (hy : SectionStep x y) :
          RecordsKept a
            ((if x.state = .energised ∧ x.lowVoltage = true then Machine.clearMonitor sec b else b).setSection sec y) := by
        refine RecordsKept.setSection (x := x) (.ite (h.clearMonitor sec) h) ?_ hy
        rw [← hx]
        split
        · rw [Blocks.section?, Blocks.section?, clearMonitor_sections]
        · rfl
      refine RecordsKept.sectionPower (RecordsKept.broadcast (RecordsKept.saySection ?_ e sec) e sec _ _) e sec
      refine .ite (RecordsKept.armSection (k _ ?_) e sec) (k _ ?_)
      all_goals exact ⟨rfl, rfl, rfl, .inr (derivedState_isolated e b sec x.permits)⟩

theorem RecordsKept.setLowVoltage (h : RecordsKept a b) (e : Env) (sec : Nat) (on : Bool) :
    RecordsKept a (setLowVoltage e sec on b) := by
  unfold Machine.setLowVoltage
  split
  · exact h
  next x hx =>
    split
    · exact h
    · refine RecordsKept.sectionPower (RecordsKept.saySection (h.setSection hx ?_) e sec) e sec
      exact ⟨rfl, rfl, rfl, .inl rfl⟩

/-- A permit decided again keeps its number and sections (R98). -/
theorem RecordsKept.decidePermit (h : RecordsKept a b) (e : Env) (p : Permit)
    (hp : (a.permits.map (·.number)).Nodup → ∀ r ∈ b.permits, r.number = p.number → r.secs = p.secs) :
    RecordsKept a (decidePermit e b p) := by
  unfold Machine.decidePermit
  dsimp only
  split
  · exact h
  · refine RecordsKept.say ?_ e _
    refine ⟨h.feeders, h.sections, h.points, fun hn => (Eq.trans ?_ (h.permits hn))⟩
    dsimp only
    rw [List.map_map]
    refine List.map_congr_left fun r hr => ?_
    by_cases hr' : r.number = p.number
    · simp [hr', hp hn r hr hr']
    · simp [hr']

/-- In a list of permits with distinct numbers, a number and sections found once are those of the permit. -/
theorem secs_of_number {ps qs : List Permit} (hn : (ps.map (·.number)).Nodup)
    (h : qs.map (fun p => (p.number, p.secs)) = ps.map fun p => (p.number, p.secs)) (p : Permit) (hp : p ∈ ps)
    (r : Permit) (hr : r ∈ qs) (hrp : r.number = p.number) : r.secs = p.secs := by
  have h1 : (r.number, r.secs) ∈ ps.map fun p => (p.number, p.secs) := by
    rw [← h]; exact List.mem_map_of_mem hr
  obtain ⟨q, hq, hqr⟩ := List.mem_map.mp h1
  have hqn : q.number = r.number := congrArg Prod.fst hqr
  have hqs : q.secs = r.secs := congrArg Prod.snd hqr
  have : q = p := List.inj_on_of_nodup_map hn hq hp (hqn.trans hrp)
  rw [← hqs, this]

theorem RecordsKept.decidePermits (h : RecordsKept a b) (e : Env) (sec : Nat) :
    RecordsKept a (decidePermits e sec b) := by
  unfold Machine.decidePermits
  have k : ∀ (ps : List Permit) (c : Blocks), (∀ p ∈ ps, p ∈ b.permits) → RecordsKept a c → RecordsKept b c →
      RecordsKept a (ps.foldl (Machine.decidePermit e) c) := by
    intro ps
    induction ps with
    | nil => exact fun c _ hc _ => hc
    | cons p ps ih =>
      intro c hps hc hbc
      have hpb := hps p List.mem_cons_self
      refine ih _ (fun q hq => hps q (List.mem_cons_of_mem _ hq)) (hc.decidePermit e p fun hn => ?_)
        (hbc.decidePermit e p fun hn => ?_)
      · have hbn : (b.permits.map (·.number)).Nodup := by rw [numbers_of_permits (h.permits hn)]; exact hn
        exact fun r hr hrn => secs_of_number hbn (hbc.permits hbn) p hpb r hr hrn
      · exact fun r hr hrn => secs_of_number hn (hbc.permits hn) p hpb r hr hrn
  exact k _ b (fun p hp => List.mem_of_mem_filter hp) h (.refl b)

theorem RecordsKept.feederChanged (h : RecordsKept a b) (e : Env) (sec : Nat) :
    RecordsKept a (feederChanged e sec b) :=
  (h.deriveSection e sec).decidePermits e sec

/-! ## A telegram handed to the radio link -/

/-- The telegram's place in the queue is that of its replacement target (R167). -/
theorem TxTelegram.replaces_iff (t u : TxTelegram) : t.replaces u = true ↔ t.Target u := by
  cases t <;> cases u <;> simp [TxTelegram.replaces, TxTelegram.Target, TxTelegram.Broadcasts, TxTelegram.sec?, eq_comm]

theorem replaceTx_none {t : TxTelegram} {q : List TxTelegram} (h : ∀ u ∈ q, ¬ t.Target u) : replaceTx t q = none := by
  induction q with
  | nil => rfl
  | cons x q ih =>
    have hx : ¬ t.replaces x = true := mt (t.replaces_iff x).1 (h x (by simp))
    simp [replaceTx, hx, ih fun u hu => h u (by simp [hu])]

theorem replaceTx_first {t u : TxTelegram} {a c : List TxTelegram} (hu : t.Target u) (ha : ∀ w ∈ a, ¬ t.Target w) :
    replaceTx t (a ++ u :: c) = some (a ++ t :: c) := by
  induction a with
  | nil => simp [replaceTx, (t.replaces_iff u).2 hu]
  | cons x a ih =>
    have hx : ¬ t.replaces x = true := mt (t.replaces_iff x).1 (ha x (by simp))
    simp [replaceTx, hx, ih fun w hw => ha w (by simp [hw])]

/-- What handing a telegram makes of the Transmit Queue and its overflow flag (R166, R167). -/
theorem handTelegram_handed (e : Env) (t : TxTelegram) (b : Blocks) : Handed b.rlc t (handTelegram e t b).rlc where
  off h := by simp [handTelegram, h]
  replaces a u c h hq hu ha := by simp [handTelegram, h, hq, replaceTx_first hu ha]
  appends h hn hl := by simp [handTelegram, h, replaceTx_none hn, Config.transmitMax, hl]
  overflows h := by
    have hl : ¬ b.rlc.txQueue.length < 8 := Nat.not_lt.2 h.2.2
    by_cases ho : b.rlc.txOverflow = true <;>
      simp [handTelegram, h.1, replaceTx_none h.2.1, Config.transmitMax, hl, ho]

/-- CLC's transaction after a conversion request (R19). -/
@[simp] theorem convert_inFlight (e : Env) (ch : Nat) (o : ConversionOwner) (b : Blocks) :
    (convert e ch o b).clc.inFlight = some (requested e.time ch o) := rfl

end Sys2Proof.Machine
end

