-- ==== Sys2Proof/Laws/FeederRecords.lean ====
section
/-! SUPPORT. What the operations of Feeder Control, of the inserts and of the Vehicle Tracker leave of the records they write. -/

namespace Sys2Proof.Machine

open Sys2Proof

variable {a b : Blocks}

/-- The fields a transition sets besides the state: no connection, no value of PU, no output. -/
def SetsFields (set : Feeder → Feeder) : Prop := ∀ x, FeederStep x (set x)

theorem FeederStep.same {x y : Feeder} (hc : y.conn = x.conn) (hp : y.pu.theta = x.pu.theta)
    (ho : y.pu.offset = x.pu.offset) (hr : y.pu.ring = x.pu.ring) (hs : y.state = x.state)
    (h1 : y.tripCoil = x.tripCoil) (h2 : y.closeCoil = x.closeCoil) (h3 : y.testContactor = x.testContactor) :
    FeederStep x y :=
  ⟨hc, hp, ho, .inl hr, fun h => by unfold Feeder.Follows; rw [hs, h1, h2, h3]; exact h⟩

/-- A feeder that enters a state drives the outputs of that state (R65). -/
theorem Feeder.enter_follows (e : Env) (new : FeederState) (x : Feeder) : (x.enter e new).Follows := by
  unfold Feeder.Follows Feeder.enter Feeder.driven
  refine ⟨by simp, by simp, ?_⟩
  dsimp only
  cases new with
  | lineTest p => cases p <;> simp [FeederState.drivesTest]
  | _ => simp [FeederState.drivesTest]

theorem FeederStep.enter (e : Env) (new : FeederState) (x : Feeder) : FeederStep x (x.enter e new) := by
  refine ⟨rfl, rfl, rfl, ?_, fun _ => Feeder.enter_follows e new x⟩
  by_cases h : new = .closed
  · exact .inr (by simp [Feeder.enter, Feeder.driven, Pu.onChange, h])
  · exact .inl (by simp [Feeder.enter, Feeder.driven, Pu.onChange, h])

theorem SetsFields.id : SetsFields id := fun x => .refl x

theorem SetsFields.withCause (c : Cause) : SetsFields (withCause c) := fun _ => .same rfl rfl rfl rfl rfl rfl rfl rfl

/-- A change of a feeder's state. -/
theorem RecordsKept.moveFeeder (h : RecordsKept a b) (e : Env) (f : Nat) (new : FeederState) {set : Feeder → Feeder}
    (hset : SetsFields set) (ns : List NoticeBody) : RecordsKept a (moveFeeder e f new set ns b) := by
  unfold Machine.moveFeeder
  split
  · exact h
  next x hx =>
    have hy (r : RecloseRole) : FeederStep x { set (x.enter e new) with role := r } :=
      ((FeederStep.enter e new x).trans (hset _)).trans (.same rfl rfl rfl rfl rfl rfl rfl rfl)
    have k (y : Feeder) (hy : FeederStep x y) (sec : Nat) (c : Prop) [Decidable c] :
        RecordsKept a (Machine.sayFeeder e f (Machine.sayAll e ns
          (if c then Machine.setLeader sec none (b.setFeeder f y) else b.setFeeder f y))) := by
      have := RecordsKept.sayAll
        (RecordsKept.ite (c := c) ((h.setFeeder hx hy).setLeader sec none) (h.setFeeder hx hy)) e ns
      unfold Machine.sayFeeder
      split
      · exact this
      · exact this.say e _
    exact .ite (k _ (hy _) _ _) ((k _ (hy _) _ _).feederChanged e _)

theorem RecordsKept.sayFeeder (h : RecordsKept a b) (e : Env) (f : Nat) : RecordsKept a (sayFeeder e f b) := by
  unfold Machine.sayFeeder
  split
  · exact h
  · exact h.say e _

theorem RecordsKept.giveRole (h : RecordsKept a b) (e : Env) (f : Nat) (c : Cause) :
    RecordsKept a (giveRole e f c b) := by
  unfold Machine.giveRole
  split
  · exact h
  next x hx =>
    split
    · exact h
    · refine .ite (RecordsKept.setLeader (h.setFeeder hx ?_) _ _) (h.setFeeder hx ?_)
      all_goals exact .same rfl rfl rfl rfl rfl rfl rfl rfl

theorem RecordsKept.enterTripping (h : RecordsKept a b) (e : Env) (f : Nat) (c : Cause) (mark : Bool)
    (sample : Option Sample) (ns : List NoticeBody) : RecordsKept a (enterTripping e f c mark sample ns b) :=
  (h.giveRole e f c).moveFeeder e f _ (by exact fun _ => .same rfl rfl rfl rfl rfl rfl rfl rfl) _

theorem RecordsKept.freshDeadTime (h : RecordsKept a b) (e : Env) (f : Nat) {set : Feeder → Feeder}
    (hset : SetsFields set) (ns : List NoticeBody) : RecordsKept a (freshDeadTime e f set ns b) := by
  unfold Machine.freshDeadTime
  split
  · exact h
  · exact h.moveFeeder e f _ hset _

theorem RecordsKept.finishTrip (h : RecordsKept a b) (e : Env) (f : Nat) (c : Cause) (ns : List NoticeBody) :
    RecordsKept a (finishTrip e f c ns b) := by
  unfold Machine.finishTrip
  split
  · exact h
  · have k (st : FeederState) (c' : Cause) : RecordsKept a
        (Machine.moveFeeder e f st (fun y => { withCause c' y with closeOntoFault := false }) ns b) :=
      h.moveFeeder e f st (by exact fun _ => .same rfl rfl rfl rfl rfl rfl rfl rfl) ns
    exact .ite ((k _ _).freshDeadTime e f SetsFields.id _) (k _ _)

theorem RecordsKept.completeTrip (h : RecordsKept a b) (e : Env) (f : Nat) : RecordsKept a (completeTrip e f b) := by
  unfold Machine.completeTrip
  repeat' split
  all_goals first
    | exact h
    | exact h.finishTrip e f _ _

theorem RecordsKept.completeIfOpen (h : RecordsKept a b) (e : Env) (f : Nat) :
    RecordsKept a (completeIfOpen e f b) := by
  unfold Machine.completeIfOpen
  split
  · exact h.completeTrip e f
  · exact h

/-! ## Inserts -/

theorem RecordsKept.convert (h : RecordsKept a b) (e : Env) (ch : Nat) (o : ConversionOwner) :
    RecordsKept a (convert e ch o b) :=
  h.withClc _

theorem RecordsKept.convertEntry (h : RecordsKept a b) (e : Env) : RecordsKept a (convertEntry e b) := by
  unfold Machine.convertEntry
  split
  · exact h
  · exact (h.withSq _).convert e _ _

theorem RecordsKept.convertInsert (h : RecordsKept a b) (e : Env) : RecordsKept a (convertInsert e b) := by
  unfold Machine.convertInsert
  split
  · exact h
  · exact (h.withSq _).convert e _ _

theorem RecordsKept.beginEntry (h : RecordsKept a b) (e : Env) : RecordsKept a (beginEntry e b) := by
  unfold Machine.beginEntry
  split
  · exact h
  · exact .ite ((h.withSq _).convertEntry e) (h.withSq _)

theorem RecordsKept.carryOn (h : RecordsKept a b) (e : Env) : RecordsKept a (carryOn e b) := by
  unfold Machine.carryOn
  repeat' split
  all_goals first
    | exact h
    | exact h.convertEntry e
    | exact h.convertInsert e
    | exact h.beginEntry e

theorem RecordsKept.enterInsert (h : RecordsKept a b) (e : Env) (k : InsertKind) (who : Nat) :
    RecordsKept a (enterInsert e k who b) := by
  unfold Machine.enterInsert
  exact .ite ((h.withSq _).carryOn e) (h.withSq _)

theorem RecordsKept.askInsert (h : RecordsKept a b) (e : Env) (k : InsertKind) (f : Nat) :
    RecordsKept a (askInsert e k f b) := by
  unfold Machine.askInsert
  exact .ite (h.enterInsert e k f) (h.withSq _)

theorem RecordsKept.admitWaiter (h : RecordsKept a b) (e : Env) : RecordsKept a (admitWaiter e b) := by
  unfold Machine.admitWaiter
  split
  · exact h
  · exact ((h.withSq _).enterInsert e _ _).moveFeeder e _ _ SetsFields.id _

theorem RecordsKept.withdrawInsert (h : RecordsKept a b) (e : Env) (f : Nat) :
    RecordsKept a (withdrawInsert e f b) := by
  unfold Machine.withdrawInsert
  split
  · exact h.withSq _
  · split
    · exact h
    · split
      · exact RecordsKept.carryOn (RecordsKept.admitWaiter ((h.withSq _).withClc _) e) e
      · split
        · exact (h.withSq _).admitWaiter e
        · exact h

/-! ## Feeder Control -/

theorem RecordsKept.enterLineTest (h : RecordsKept a b) (e : Env) (f : Nat) {set : Feeder → Feeder}
    (hset : SetsFields set) : RecordsKept a (enterLineTest e f set b) :=
  (h.moveFeeder e f _ hset _).askInsert e _ f

theorem RecordsKept.leaveSequence (h : RecordsKept a b) (e : Env) (f : Nat) (new : FeederState)
    {set : Feeder → Feeder} (hset : SetsFields set) (ns : List NoticeBody) :
    RecordsKept a (leaveSequence e f new set ns b) :=
  (h.moveFeeder e f _ hset _).withdrawInsert e f

theorem RecordsKept.followerLosesLeader (h : RecordsKept a b) (e : Env) (g : Nat) {y : Feeder}
    (hy : b.feeder? g = some y) : RecordsKept a (followerLosesLeader e g y b) := by
  unfold Machine.followerLosesLeader
  repeat' split
  all_goals first
    | exact h
    | exact h.leaveSequence e g _ (SetsFields.withCause _) _
    | exact h.setFeeder hy (SetsFields.withCause _ _)
    | (refine h.setFeeder hy ?_; exact .same rfl rfl rfl rfl rfl rfl rfl rfl)

theorem RecordsKept.partnerConsequence (h : RecordsKept a b) (e : Env) (f : Nat) :
    RecordsKept a (partnerConsequence e f b) := by
  unfold Machine.partnerConsequence
  split
  · split
    · exact h
    next y hy =>
      repeat' split
      all_goals first
        | exact h
        | exact h.followerLosesLeader e _ hy
        | exact h.enterLineTest e _ SetsFields.id
  · exact h

theorem RecordsKept.settleTrip (h : RecordsKept a b) (e : Env) (f : Nat) : RecordsKept a (settleTrip e f b) := by
  unfold Machine.settleTrip
  exact .ite ((h.completeTrip e f).partnerConsequence e f) h

theorem RecordsKept.tripLive (h : RecordsKept a b) (e : Env) (f : Nat) (c : Cause) :
    RecordsKept a (tripLive e f c b) := by
  unfold Machine.tripLive
  split
  · exact h
  · exact .ite ((h.enterTripping e f c _ _ _).settleTrip e f) h

theorem RecordsKept.takeTrip (h : RecordsKept a b) (e : Env) (f : Nat) (c : Cause) (sample : Option Sample) :
    RecordsKept a (takeTrip e f c sample b) := by
  unfold Machine.takeTrip
  split
  · exact h
  · split
    · dsimp only
      refine RecordsKept.settleTrip ?_ e f
      split
      · exact h.enterTripping e f c _ _ _
      · exact (h.enterTripping e f c _ _ _).tripLive e _ _
    · exact h

theorem RecordsKept.tripTimerExpires (h : RecordsKept a b) (e : Env) (f : Nat) :
    RecordsKept a (tripTimerExpires f e b) := by
  unfold Machine.tripTimerExpires
  split
  · exact h
  · split
    · refine RecordsKept.foldl _ (fun c g hc => ?_) _ (h.moveFeeder e f _ SetsFields.id _)
      have k := RecordsKept.ite (c := e.partner f = some g) (hc.partnerConsequence e f) hc
      exact .ite (k.tripLive e g _) k
    · exact h

theorem RecordsKept.completeClose (h : RecordsKept a b) (e : Env) (f : Nat) :
    RecordsKept a (completeClose e f b) := by
  unfold Machine.completeClose
  split
  · exact h
  · have k := (h.moveFeeder e f .closed SetsFields.id []).partnerConsequence e f
    exact .ite ((k.enterTripping e f _ _ _ _).settleTrip e f) k

theorem RecordsKept.enterClosing (h : RecordsKept a b) (e : Env) (f : Nat) {set : Feeder → Feeder}
    (hset : SetsFields set) (ns : List NoticeBody) : RecordsKept a (enterClosing e f set ns b) := by
  unfold Machine.enterClosing
  exact .ite ((h.moveFeeder e f _ hset _).completeClose e f) (h.moveFeeder e f _ hset _)

theorem RecordsKept.closeTimerExpires (h : RecordsKept a b) (e : Env) (f : Nat) :
    RecordsKept a (closeTimerExpires f e b) := by
  unfold Machine.closeTimerExpires
  split
  · exact h
  · exact .ite ((h.moveFeeder e f _ SetsFields.id _).partnerConsequence e f) h

theorem RecordsKept.resetTimerExpires (h : RecordsKept a b) (e : Env) (f : Nat) :
    RecordsKept a (resetTimerExpires f e b) := by
  unfold Machine.resetTimerExpires
  split
  · exact h
  next x hx =>
    split
    · refine RecordsKept.sayFeeder (.ite (RecordsKept.setLeader (h.setFeeder hx ?_) _ _) (h.setFeeder hx ?_)) e f
      all_goals exact .same rfl rfl rfl rfl rfl rfl rfl rfl
    · exact h

theorem RecordsKept.contactCloses (h : RecordsKept a b) (e : Env) (f : Nat) :
    RecordsKept a (contactCloses f e b) := by
  unfold Machine.contactCloses externalClose
  repeat' split
  all_goals first
    | exact h
    | exact h.completeClose e f
    | exact (h.leaveSequence e f _ (SetsFields.withCause _) _).partnerConsequence e f
    | exact h.enterTripping e f _ _ _ _

theorem RecordsKept.contactOpens (h : RecordsKept a b) (e : Env) (f : Nat) : RecordsKept a (contactOpens f e b) := by
  unfold Machine.contactOpens
  repeat' split
  all_goals first
    | exact h
    | exact (h.completeTrip e f).partnerConsequence e f
    | exact ((h.giveRole e f _).finishTrip e f _ _).partnerConsequence e f

theorem RecordsKept.deadTimeEnds (h : RecordsKept a b) (e : Env) (f : Nat) : RecordsKept a (deadTimeEnds e f b) := by
  unfold Machine.deadTimeEnds
  split
  · exact h
  · exact .ite (h.moveFeeder e f _ SetsFields.id _) (h.enterLineTest e f SetsFields.id)

theorem RecordsKept.deadTimeExpires (h : RecordsKept a b) (e : Env) (f : Nat) :
    RecordsKept a (deadTimeExpires f e b) := by
  unfold Machine.deadTimeExpires
  repeat' split
  all_goals first
    | exact h
    | exact h.moveFeeder e f _ SetsFields.id _
    | exact h.deadTimeEnds e f

theorem RecordsKept.cooled (h : RecordsKept a b) (e : Env) (f : Nat) : RecordsKept a (cooled e f b) := by
  unfold Machine.cooled
  exact .ite (h.deadTimeEnds e f) h

theorem RecordsKept.settleTimerExpires (h : RecordsKept a b) (e : Env) (f : Nat) :
    RecordsKept a (settleTimerExpires f e b) := by
  unfold Machine.settleTimerExpires
  split
  · exact h
  · exact .ite ((h.moveFeeder e f _ SetsFields.id _).askInsert e _ f) h

theorem RecordsKept.lockOut (h : RecordsKept a b) (e : Env) (f : Nat) {set : Feeder → Feeder} (hset : SetsFields set)
    (ns : List NoticeBody) : RecordsKept a (lockOut e f set ns b) :=
  (h.moveFeeder e f _ hset _).partnerConsequence e f

theorem RecordsKept.takePrecheck (h : RecordsKept a b) (e : Env) (f : Nat) (r : PrecheckResult) (v : Option Int) :
    RecordsKept a (takePrecheck e f r v b) := by
  unfold Machine.takePrecheck
  split
  · exact h
  · split
    · cases r <;> dsimp only
      · exact h.moveFeeder e f _ (by exact fun _ => .same rfl rfl rfl rfl rfl rfl rfl rfl) _
      · exact .ite (h.enterClosing e f (by exact fun _ => .same rfl rfl rfl rfl rfl rfl rfl rfl) _)
          (.ite (h.lockOut e f (by exact fun _ => .same rfl rfl rfl rfl rfl rfl rfl rfl) _)
            (h.freshDeadTime e f (by exact fun _ => .same rfl rfl rfl rfl rfl rfl rfl rfl) _))
      · exact h.lockOut e f (by exact fun _ => .same rfl rfl rfl rfl rfl rfl rfl rfl) _
    · exact h

theorem RecordsKept.takeTest (h : RecordsKept a b) (e : Env) (f : Nat) (cls : TestClass) (r rEff : Int)
    (out : TestOutcome) (n : Nat) : RecordsKept a (takeTest e f cls r rEff out n b) := by
  unfold Machine.takeTest
  split
  · exact h
  · split
    · cases out
      · exact h.enterClosing e f (by exact fun _ => .same rfl rfl rfl rfl rfl rfl rfl rfl) _
      · exact .ite (h.freshDeadTime e f (by exact fun _ => .same rfl rfl rfl rfl rfl rfl rfl rfl) _)
          (h.lockOut e f (by exact fun _ => .same rfl rfl rfl rfl rfl rfl rfl rfl) _)
      · exact h.lockOut e f (by exact fun _ => .same rfl rfl rfl rfl rfl rfl rfl rfl) _
    · exact h

theorem RecordsKept.onSectionFeeders (h : RecordsKept a b) (e : Env) (sec : Nat) (act : Nat → Feeder → Blocks → Blocks)
    (hact : ∀ f x c, c.feeder? f = some x → RecordsKept a c → RecordsKept a (act f x c)) :
    RecordsKept a (onSectionFeeders e sec act b) := by
  refine RecordsKept.foldl _ (fun c f hc => ?_) _ h
  split
  · exact hc
  next x hx => exact hact _ _ _ hx hc

theorem RecordsKept.inhibitRises (h : RecordsKept a b) (e : Env) (sec : Nat) :
    RecordsKept a (inhibitRises e sec b) := by
  refine h.onSectionFeeders e sec _ fun f x c _ hc => ?_
  split
  · exact hc.leaveSequence e f _ SetsFields.id _
  · exact hc.leaveSequence e f _ SetsFields.id _
  · exact hc

theorem RecordsKept.inhibitReturns (h : RecordsKept a b) (e : Env) (sec : Nat) :
    RecordsKept a (inhibitReturns e sec b) := by
  refine h.onSectionFeeders e sec _ fun f x c _ hc => ?_
  exact .ite (hc.freshDeadTime e f SetsFields.id _) hc

theorem RecordsKept.cover (h : RecordsKept a b) (e : Env) (sec : Nat) : RecordsKept a (cover e sec b) := by
  refine h.onSectionFeeders e sec _ fun f x c hx hc => ?_
  split
  all_goals first
    | exact hc
    | exact hc.setFeeder hx (SetsFields.withCause _ _)
    | exact (hc.enterTripping e f _ _ _ _).completeIfOpen e f
    | exact hc.leaveSequence e f _ (SetsFields.withCause _) _

theorem RecordsKept.uncover (h : RecordsKept a b) (e : Env) (sec : Nat) : RecordsKept a (uncover e sec b) := by
  refine h.onSectionFeeders e sec _ fun f x c hx hc => ?_
  repeat' split
  all_goals first
    | exact hc
    | exact hc.setFeeder hx (SetsFields.withCause _ _)
    | exact hc.moveFeeder e f _ SetsFields.id _

theorem RecordsKept.closeRequested (h : RecordsKept a b) (e : Env) (f : Nat) :
    RecordsKept a (closeRequested e f b) :=
  h.enterLineTest e f (by exact fun _ => .same rfl rfl rfl rfl rfl rfl rfl rfl)

theorem RecordsKept.resetFailed (h : RecordsKept a b) (e : Env) (f sec : Nat) :
    RecordsKept a (resetFailed f sec e b) := by
  have hs (c : Cause) : SetsFields (freshFeeder c) := fun _ => .same rfl rfl rfl rfl rfl rfl rfl rfl
  unfold Machine.resetFailed
  split
  all_goals first
    | exact (h.moveFeeder e f _ (hs _) _).partnerConsequence e f
    | exact h.moveFeeder e f _ (hs _) _

/-! ## Protection -/

theorem RecordsKept.degraded (h : RecordsKept a b) (e : Env) (f : Nat) (r : DegradeReason) (s : Option Sample) :
    RecordsKept a (degraded e f r s b) := by
  unfold Machine.degraded
  split
  · exact h
  next x hx =>
    split
    · exact h.takeTrip e f _ _
    · split
      · refine RecordsKept.say (h.setFeeder hx ?_) e _
        exact .same rfl rfl rfl rfl rfl rfl rfl rfl
      · exact h

theorem RecordsKept.staleExpires (h : RecordsKept a b) (e : Env) (f : Nat) : RecordsKept a (staleExpires f e b) := by
  unfold Machine.staleExpires
  split
  · exact h
  · refine .ite (RecordsKept.degraded (h.amendFeeder f _ ?_) e f _ _) h
    exact fun _ => .same rfl rfl rfl rfl rfl rfl rfl rfl

/-! ## Tracking -/

theorem RecordsKept.sectionTrip (h : RecordsKept a b) (e : Env) (sec : Option Nat) :
    RecordsKept a (sectionTrip e sec b) := by
  unfold Machine.sectionTrip
  split
  · exact h.onSectionFeeders e _ _ fun f _ c _ hc => hc.tripLive e f _
  · exact h

theorem RecordsKept.inhibitChanged (h : RecordsKept a b) (e : Env) (sec : Option Nat) (was : Nat) :
    RecordsKept a (inhibitChanged e sec was b) := by
  unfold Machine.inhibitChanged
  split
  · exact h
  · dsimp only
    repeat' split
    all_goals first
      | exact h
      | exact h.inhibitRises e _
      | exact h.inhibitReturns e _

end Sys2Proof.Machine
end

