-- ==== Sys2Proof/WellFormed.lean ====
section
/-! DEFINITION. Which commands can reach the part: every field of a request fits the width of its kind (R198), a request frame
is complete (R196), and an event names one of the part's inputs or timers. -/

namespace Sys2Proof

/-- A one-byte field. -/
def isByte (n : Nat) : Bool := decide (n < 256)

/-- A two-byte field. -/
def isWord (n : Nat) : Bool := decide (n < 65536)

/-- A two-byte signed field. -/
def isSigned (n : Int) : Bool := decide (-32768 ≤ n ∧ n < 32768)

/-- A two-byte unsigned field that is kept as an integer. -/
def isUnsigned (n : Int) : Bool := decide (0 ≤ n ∧ n < 65536)

/-- The widths of the settings of R9. R_t reaches 100000 (R9), which two bytes do not carry (log 26); a command may carry it. -/
def SettingNumbers.wf (x : SettingNumbers) : Bool :=
  [x.tDead, x.tSettle, x.tClose, x.tTrip, x.tReset, x.tStep, x.tStale].all isWord &&
  [x.nRc, x.nLt, x.w, x.k].all isByte && [x.iInst, x.iRev, x.dIset].all isSigned &&
  [x.thetaAlarm, x.thetaTrip, x.rMin, x.vBf].all isUnsigned && decide (0 ≤ x.rT ∧ x.rT < 4294967296)

def ProtectionArgs.wf (a : ProtectionArgs) : Bool := a.toSettingNumbers.wf && isByte a.policy

def NetworkArgs.wf (a : NetworkArgs) : Bool :=
  [a.busCount, a.radioGroup, a.leakage].all isByte && [a.tMatch, a.tSilence, a.tPoint, a.tHold].all isWord

def FeederArgs.wf (a : FeederArgs) : Bool :=
  [a.feeder, a.sec, a.bus, a.currentCh, a.busCh, a.lineCh].all isByte && a.protection.wf

def PointArgs.wf (a : PointArgs) : Bool :=
  [a.point, a.sec, a.entry, a.leftExit, a.rightExit, a.entryDir, a.leftDir, a.rightDir].all isByte

def ScanArgs.wf (a : ScanArgs) : Bool :=
  [a.channel, a.settle, a.record, a.mode, a.pause, a.binding].all isByte && [a.limit1, a.limit2].all isSigned &&
  isWord a.hysteresis

/-- A feeder, or a point: the part has sixteen of each. -/
def isSixteen (n : Nat) : Bool := decide (n < 16)

/-- A detector: the part has inputs for 48. -/
def isDetector (n : Nat) : Bool := decide (n < 48)

/-- The bytes hold a complete request frame (R196). -/
def isFrame (bytes : List Byte) : Bool := (readRequestFrame bytes).isSome

/-- The command can reach the part. -/
def Instr.wf (i : Instr) : Bool :=
  match i with
  | .loadNetwork _ tag a => isByte tag && a.wf
  | .loadSection _ tag sec => isByte tag && isByte sec
  | .loadFeeder _ tag a => isByte tag && a.wf
  | .loadDetector _ tag det sideA sideB => isByte tag && [det, sideA, sideB].all isByte
  | .loadPoint _ tag a => isByte tag && a.wf
  | .startRun _ tag => isByte tag
  | .restart _ tag => isByte tag
  | .powerOnReset => true
  | .lineTimeTick => true
  | .requestFrame _ bytes => isFrame bytes
  | .readFrame _ _ => true
  | .framingError _ => true
  | .readStatus _ tag => isByte tag
  | .setMask _ tag kinds => isByte tag && isByte kinds.length && kinds.all isByte
  | .setLineMode _ tag mode gap routing => isByte tag && [mode, gap, routing].all isByte
  | .attentionGapEnd _ => true
  | .attentionPulseEnd _ => true
  | .writeScan _ tag entries first len =>
    isByte tag && isByte entries.length && entries.all ScanArgs.wf && [first, len].all isByte
  | .startScan _ tag => isByte tag
  | .stopScan _ tag => isByte tag
  | .resumeScan _ tag => isByte tag
  | .calibrate _ tag ch => isByte tag && isByte ch
  | .setMqThreshold _ tag n => isByte tag && isByte n
  | .readMeasurements _ tag n => isByte tag && isByte n
  | .scanSettleExpiry => true
  | .converterAnswer _ => true
  | .converterAnswerExpiry => true
  | .staleTimerExpiry f => isSixteen f
  | .contactReportOpen f => isSixteen f
  | .contactReportClosed f => isSixteen f
  | .tripTimerExpiry f => isSixteen f
  | .closeTimerExpiry f => isSixteen f
  | .deadTimeExpiry f => isSixteen f
  | .settleTimerExpiry f => isSixteen f
  | .resetTimerExpiry f => isSixteen f
  | .closeFeeder _ tag f => isByte tag && isByte f
  | .openFeeder _ tag f => isByte tag && isByte f
  | .resetFeeder _ tag f => isByte tag && isByte f
  | .setProtection _ tag f a => isByte tag && isByte f && a.wf
  | .readFeeder _ tag f => isByte tag && isByte f
  | .isolate _ tag number secs => isByte tag && isWord number && isByte secs.length && secs.all isByte
  | .release _ tag number => isByte tag && isWord number
  | .readPermit _ tag number => isByte tag && isWord number
  | .readSection _ tag sec => isByte tag && isByte sec
  | .detectionContactChange pt _ _ => isSixteen pt
  | .detectorContactClosing det _ => isDetector det
  | .reserve _ tag pt position vehicle rtag =>
    isByte tag && isByte pt && isByte position && isWord vehicle && isWord rtag
  | .cancel _ tag pt rtag => isByte tag && isByte pt && isWord rtag
  | .flushPoint _ tag pt => isByte tag && isByte pt
  | .cancelVehicle _ tag v => isByte tag && isWord v
  | .holdTimerExpiry pt => isSixteen pt
  | .holdPoint _ tag pt => isByte tag && isByte pt
  | .freePoint _ tag pt => isByte tag && isByte pt
  | .resetPoint _ tag pt => isByte tag && isByte pt
  | .readPoint _ tag pt => isByte tag && isByte pt
  | .driveTransactionStart => true
  | .driveAnswer _ _ => true
  | .driveAnswerExpiry => true
  | .busyDelayExpiry pt => isSixteen pt
  | .pointTimerExpiry pt => isSixteen pt
  | .passEntryExpiry => true
  | .silenceExpiry v => decide (1 ≤ v ∧ v ≤ 4095)
  | .vtTakeTelegram => true
  | .retire _ tag v => isByte tag && isWord v
  | .readVehicle _ tag v => isByte tag && isWord v
  | .clearFault _ tag v code => isByte tag && isWord v && isByte code
  | .radioEnable _ tag receive transmit => isByte tag && [receive, transmit].all isByte
  | .flushRadio _ tag => isByte tag
  | .allStop _ tag => isByte tag
  | .receiveIdleGap => true
  | .transmitStart => true
  | .transmitEnd => true
  | .radioByteArrival _ _ => true
  | .detectorContactOpening det _ => isDetector det

end Sys2Proof
end

