-- ==== Sys2Proof/Tests/Slice0.lean ====
section
/-! SUPPORT. The package's own tests: what WellFormed refuses, the worked cases of the spec, one step of each command on a small
zone, and for each statement that has hypotheses a state and operands that meet them. -/

namespace Sys2Proof.Tests

set_option Elab.async false

open Sys2Proof Sys2Proof.Machine

/-! ## A small zone: the example of R18's chapter, with points and detectors of the later examples -/

/-- The settings of the examples' feeders. -/
def args : ProtectionArgs where
  tDead := 3000
  tSettle := 200
  tClose := 200
  tTrip := 100
  tReset := 60
  tStep := 3
  tStale := 20
  nRc := 3
  nLt := 2
  w := 4
  k := 6
  iInst := 6000
  iRev := 0
  dIset := 1500
  thetaAlarm := 30000
  thetaTrip := 31000
  rT := 20000
  rMin := 1500
  vBf := 500
  policy := 0

def settings : Settings := { toSettingNumbers := args.toSettingNumbers, policy := .hold }

/-- S4 fed by F4, S5 by F6 and F7, S6 by F8; P2 in S5 between D10, D12 and D13. -/
def tables : NetTables where
  network := some
    { busCount := 2, tMatch := 2000, tSilence := 60, tPoint := 4000, tHold := 120, radioGroup := 17, leakage := .notify }
  sections := put (put (put NetTables.empty.sections 4 ()) 5 ()) 6 ()
  feeders :=
    put (put (put (put NetTables.empty.feeders 4 ⟨4, 0, 0, 1, 2, settings⟩) 6 ⟨5, 0, 3, 4, 5, settings⟩)
      7 ⟨5, 1, 6, 7, 8, settings⟩) 8 ⟨6, 1, 9, 10, 11, settings⟩
  detectors :=
    put (put (put (put NetTables.empty.detectors 10 ⟨some 4, some 5⟩) 11 ⟨some 5, some 5⟩) 12 ⟨some 5, some 6⟩)
      13 ⟨some 5, none⟩
  points := put NetTables.empty.points 2 ⟨5, 10, 12, 13, .ab, .ab, .ab⟩

/-- CONFIG with the tables loaded, F4, F6 and F7 closed, P2 lying left, and the rests after the reset over. -/
def loaded : State :=
  let s := State.reset
  let pins : Pins :=
    { s.pins with
      aux := ((s.pins.aux.setIfInBounds 4 .closed).setIfInBounds 6 .closed).setIfInBounds 7 .closed
      leftDetection := s.pins.leftDetection.setIfInBounds 2 .closed }
  let b := s.blocks
  { s with
    time := 1000, net := tables, pins := pins
    blocks := { b with clc := { b.clc with rest := none }, dlc := { b.dlc with rest := none } } }

/-- The zone in RUN, nothing queued. -/
def zone : State := enterRun loaded

def at' (n : Nat) (s : State) : State := { s with time := BitVec.ofNat 32 n }

def atBlocks (g : Blocks → Blocks) (s : State) : State := s.onBlocks fun _ b => g b

def atFeeder (f : Nat) (g : Feeder → Feeder) : State → State := atBlocks fun b => b.amendFeeder f g

def atSection (sec : Nat) (g : SectionRec → SectionRec) : State → State := atBlocks fun b => b.amendSection sec g

def atPoint (g : Point → Point) : State → State := atBlocks fun b => b.amendPoint 2 g

def atPort (p : Port) (g : PortState → PortState) (s : State) : State := s.amendPort p g

def atSq (g : Sq → Sq) : State → State := atBlocks fun b => { b with sq := g b.sq }

def atRadio (g : Rlc → Rlc) : State → State := atBlocks fun b => { b with rlc := g b.rlc }

/-- A port's queue filled with replies. -/
def full (p : Port) : State → State :=
  atPort p fun ps => { ps with queue := List.replicate 32 (.reply ⟨0, 1, .done, false, .none⟩) }

/-- The contact of a feeder's breaker reads open. -/
def opened (f : Nat) (s : State) : State := { s with pins := { s.pins with aux := s.pins.aux.setIfInBounds f .opened } }

/-- The state after one command. -/
def after (i : Instr) (s : State) : State :=
  match exec i s with
  | .next t => t
  | .fault _ => s
  | .refused _ => s

/-- The code of the reply at a port's head. -/
def code (p : Port) (s : State) : Option ReplyCode :=
  match (s.port p).queue with
  | .reply r :: _ => some r.code
  | _ => none

/-- The kinds of the notices in a port's queue. -/
def kinds (p : Port) (s : State) : List NoticeKind :=
  (s.port p).queue.filterMap fun
    | .reply _ => none
    | .notice n => some n.body.kind

/-- What a feeder's state is. -/
def stateOf (f : Nat) (s : State) : Option FeederState := (s.blocks.feeder? f).map (·.state)

/-! ## What WellFormed refuses -/

/-- A request with a tag, and an identifier where it carries one, that one byte does not hold. -/
theorem test_wf_refuses_wide_tags :
    ∀ i ∈ ([.loadNetwork .works 256 ⟨1, 100, 5, 500, 0, 0, 0⟩, .loadSection .works 256 0, .loadFeeder .works 256 ⟨0, 0, 0, 0, 1, 2, args⟩,
      .loadDetector .works 256 0 0 1, .loadPoint .works 256 ⟨0, 0, 0, 1, 2, 0, 0, 0⟩, .startRun .works 256,
      .restart .works 256, .readStatus .works 256, .setMask .works 256 [], .setLineMode .works 256 0 0 0,
      .writeScan .dispatch 256 [] 0 0, .startScan .dispatch 256, .stopScan .dispatch 256, .resumeScan .dispatch 256,
      .calibrate .dispatch 256 0, .setMqThreshold .dispatch 256 1, .readMeasurements .dispatch 256 1,
      .closeFeeder .dispatch 256 0, .openFeeder .dispatch 256 0, .resetFeeder .dispatch 256 0] : List Instr) ++
      [.setProtection .dispatch 256 0 args, .readFeeder .dispatch 256 0, .isolate .works 256 1 [4], .release .works 256 1,
       .readPermit .works 256 1, .readSection .works 256 0, .reserve .traffic 256 0 0 0 1, .cancel .traffic 256 0 1,
       .flushPoint .traffic 256 0, .cancelVehicle .traffic 256 1, .holdPoint .works 256 0, .freePoint .works 256 0,
       .resetPoint .traffic 256 0, .readPoint .traffic 256 0, .retire .traffic 256 1, .readVehicle .traffic 256 1,
       .clearFault .traffic 256 1 0, .radioEnable .traffic 256 1 1, .flushRadio .traffic 256, .allStop .traffic 256],
      i.wf = false := by decide

theorem test_wf_refuses_wide_identifiers :
    ∀ i ∈ ([.loadSection .works 0 256, .loadFeeder .works 0 ⟨256, 0, 0, 0, 1, 2, args⟩, .loadDetector .works 0 256 0 1,
      .loadPoint .works 0 ⟨0, 0, 0, 1, 2, 0, 0, 256⟩, .setMask .works 0 [256], .setLineMode .works 0 0 256 0,
      .writeScan .dispatch 0 [] 256 0, .writeScan .dispatch 0 [⟨256, 0, 0, 0, 0, 0, 0, 0, 255⟩] 0 0,
      .writeScan .dispatch 0 [⟨0, 0, 0, 0, 32768, 0, 0, 0, 255⟩] 0 0,
      .writeScan .dispatch 0 [⟨0, 0, 0, 0, 0, 0, 65536, 0, 255⟩] 0 0, .calibrate .dispatch 0 256,
      .setMqThreshold .dispatch 0 256, .readMeasurements .dispatch 0 256, .closeFeeder .dispatch 0 256,
      .openFeeder .dispatch 0 256, .resetFeeder .dispatch 0 256, .setProtection .dispatch 0 256 args,
      .readFeeder .dispatch 0 256, .isolate .works 0 1 [256], .readSection .works 0 256] : List Instr) ++
      [.reserve .traffic 0 256 0 0 1, .reserve .traffic 0 0 256 0 1, .cancel .traffic 0 256 1, .flushPoint .traffic 0 256,
       .holdPoint .works 0 256, .freePoint .works 0 256, .resetPoint .traffic 0 256, .readPoint .traffic 0 256,
       .clearFault .traffic 0 1 256, .radioEnable .traffic 0 256 1],
      i.wf = false := by decide

theorem test_wf_refuses_wide_words :
    ∀ i ∈ ([.loadNetwork .works 0 ⟨1, 65536, 5, 500, 0, 0, 0⟩, .loadNetwork .works 0 ⟨256, 100, 5, 500, 0, 0, 0⟩,
      .setProtection .dispatch 0 0 { args with tDead := 65536 }, .setProtection .dispatch 0 0 { args with nRc := 256 },
      .setProtection .dispatch 0 0 { args with iInst := 32768 }, .setProtection .dispatch 0 0 { args with vBf := -1 },
      .setProtection .dispatch 0 0 { args with rT := -1 }, .setProtection .dispatch 0 0 { args with policy := 256 },
      .isolate .works 0 65536 [4], .release .works 0 65536, .readPermit .works 0 65536,
      .reserve .traffic 0 0 0 65536 1, .reserve .traffic 0 0 0 0 65536, .cancel .traffic 0 0 65536,
      .cancelVehicle .traffic 0 65536, .retire .traffic 0 65536, .readVehicle .traffic 0 65536,
      .clearFault .traffic 0 65536 0] : List Instr),
      i.wf = false := by decide

theorem test_wf_refuses_events_without_inputs :
    ∀ i ∈ ([.staleTimerExpiry 16, .contactReportOpen 16, .contactReportClosed 16, .tripTimerExpiry 16, .closeTimerExpiry 16,
      .deadTimeExpiry 16, .settleTimerExpiry 16, .resetTimerExpiry 16, .detectionContactChange 16 .left .closed,
      .detectorContactClosing 48 .a, .detectorContactOpening 48 .a, .holdTimerExpiry 16, .busyDelayExpiry 16,
      .pointTimerExpiry 16, .silenceExpiry 0, .silenceExpiry 4096, .requestFrame .works [1, 0, 7, 38]] : List Instr),
      i.wf = false := by decide

theorem test_wf_takes_commands_at_their_ends :
    ∀ i ∈ ([.loadSection .works 255 255, .staleTimerExpiry 15, .detectorContactClosing 47 .b, .silenceExpiry 4095,
      .isolate .works 0 65535 [4], .setProtection .dispatch 0 255 { args with rT := 100000 },
      .requestFrame .works [1, 0, 7, 38, 5, 255, 205], .powerOnReset, .lineTimeTick] : List Instr),
      i.wf = true := by decide

/-! ## The arithmetic of the spec's worked cases -/

/-- R41's table at offset 3. -/
theorem test_classes :
    classify true 3 true 410 = ⟨.normal, 407⟩ ∧ classify true 3 true 12004 = ⟨.over, 12000⟩ ∧
      classify true 3 true (-11998) = ⟨.under, -12000⟩ ∧ classify true 3 true (-32768) = ⟨.under, -12000⟩ ∧
      classify false 0 true (-32768) = ⟨.under, 0⟩ ∧ classify false 0 true (-5) = ⟨.normal, 0⟩ ∧
      classify true 3 true 32767 = ⟨.over, 12000⟩ ∧ classify true 3 false 410 = ⟨.invalid, 0⟩ := by decide

/-- The thermal worked case: k 6, 3000 A from 1000, and the floor on the way down. -/
theorem test_thermal :
    thermalStep 6 1000 3000 = 1018 ∧ thermalStep 6 1018 3000 = 1036 ∧ thermalStep 6 1 0 = 0 ∧ thermalStep 6 63 0 = 62 := by
  decide

/-- The line tests of F6 and the resistance in effect at each occupancy. -/
theorem test_line_tests :
    testOf 20000 6600 120 = (.normal, 370) ∧ testOf 20000 6600 800 = (.normal, 2758) ∧
      testOf 20000 6600 6000 = (.normal, 65535) ∧ testOf 20000 6600 40 = (.short, 0) ∧
      testOf 20000 6600 6600 = (.opened, 65535) ∧
      [0, 1, 2, 3, 5].map (effectiveR 1500) = [1500, 750, 375, 187, 187] := by decide

/-- F6's precheck of 35 and 28 passes at 31; F7's of 6550 and 6560 is BACKFED at 6555. -/
theorem test_prechecks :
    precheckOf 500 [⟨.normal, 35⟩, ⟨.normal, 28⟩] = (.passed, some 31) ∧
      precheckOf 500 [⟨.normal, 6550⟩, ⟨.normal, 6560⟩] = (.backfed, some 6555) := by decide

/-- The eight codes of C9 sum to 28 and give the offset 3. -/
theorem test_offset :
    calOffset ([3, 4, 2, 5, 3, 4, 3, 4].map fun r => ⟨r, true, ⟨.normal, r⟩, false⟩) = 3 := by decide

/-- The step of F6: armed at 104 from base 800 with hold level 1550. -/
theorem test_step_arms :
    armStep settings [⟨800, 100⟩, ⟨820, 101⟩, ⟨810, 102⟩, ⟨830, 103⟩, ⟨2600, 104⟩] 104 2600 = some ⟨800, 1550, 104⟩ := by
  decide

/-- The POS of vehicle 214: leading bytes sum 242, check word 65294. -/
theorem test_check_word :
    withCheck [17, 1, 0, 214, 10, 0] = [17, 1, 0, 214, 10, 0, 255, 14] ∧ checkOk [17, 1, 0, 214, 10, 0, 255, 14] = true ∧
      checkOk [17, 1, 1, 214, 10, 0, 255, 14] = false := by decide

/-! ## Configuration, resets and time -/

theorem test_load_network_stores :
    ((after (.loadNetwork .works 7 ⟨2, 50, 60, 4000, 0, 17, 1⟩) loaded).net.network.map fun r => (r.tMatch, r.tHold, r.leakage)) =
      some (100, 0, .tripSection) := by decide +kernel

theorem test_load_network_checks :
    code .works (after (.loadNetwork .works 7 ⟨5, 2000, 60, 4000, 120, 17, 0⟩) loaded) = some .badArgument ∧
      code .works (after (.loadNetwork .works 7 ⟨2, 2000, 60, 4000, 120, 255, 0⟩) loaded) = some .badArgument := by
  decide +kernel

theorem test_load_section :
    (look (after (.loadSection .works 7 23) loaded).net.sections 23).isSome = true ∧
      code .works (after (.loadSection .works 7 24) loaded) = some .badArgument := by decide +kernel

/-- F6 with T_dead 50 ms is stored with 100 ms. -/
theorem test_load_feeder_clamps :
    ((look (after (.loadFeeder .works 7 ⟨6, 5, 0, 3, 4, 5, { args with tDead := 50 }⟩) loaded).net.feeders 6).map
        fun r => r.settings.tDead) = some 100 := by decide +kernel

theorem test_load_detector :
    look (after (.loadDetector .works 7 13 5 255) loaded).net.detectors 13 = some ⟨some 5, none⟩ ∧
      code .works (after (.loadDetector .works 7 13 24 255) loaded) = some .badArgument := by decide +kernel

theorem test_load_point :
    look (after (.loadPoint .works 7 ⟨3, 5, 10, 12, 13, 1, 0, 0⟩) loaded).net.points 3 = some ⟨5, 10, 12, 13, .ba, .ab, .ab⟩ := by
  decide +kernel

/-- F8 on C8, which is F7's: BAD_CONFIG, FEEDER F8, CHANNEL_SHARED, C8. -/
theorem test_start_run_shared_channel :
    ((after (.startRun .works 7)
        { loaded with net := { loaded.net with feeders := put loaded.net.feeders 8 ⟨6, 1, 9, 10, 8, settings⟩ } }).port .works).queue =
      [.reply ⟨7, 31, .badConfig, false, .badConfig .feeder (some 8) .channelShared (some 8)⟩] := by decide +kernel

/-- The derived lists of the zone, and its first states. -/
theorem test_start_run :
    let s := after (.startRun .works 8) loaded
    s.env.feedersOf 5 = [6, 7] ∧ s.env.partner 6 = some 7 ∧ s.env.partner 4 = none ∧ s.env.busFeeders 1 = [7, 8] ∧
      s.derived.boundary[5]? = some [10, 11, 12, 13] ∧ s.env.roleOf 12 = some (2, .leftExit) ∧ s.env.roleOf 11 = none ∧
      stateOf 7 s = some .closed ∧ stateOf 8 s = some .opened ∧
      (s.blocks.section? 6).map (·.state) = some .dead ∧ s.blocks.dlc.queue = [2] := by decide +kernel

theorem test_restart :
    (after (.restart .works 3) zone).mode = .config ∧ kinds .traffic (after (.restart .works 3) zone) = [.restarted] := by
  decide +kernel

theorem test_power_on_reset :
    after .powerOnReset { zone with pins := Pins.unreported } = State.reset := by decide +kernel

theorem test_tick_wraps : (after .lineTimeTick (at' 4294967295 zone)).time = 0 := by decide +kernel

/-! ## Ports -/

/-- READ_STATUS as bytes: code 38, tag 5. -/
theorem test_request_frame :
    code .works (after (.requestFrame .works [1, 0, 7, 38, 5, 255, 205]) zone) = some .done ∧
      ((after (.requestFrame .works [1, 0, 7, 38, 5, 255, 204]) zone).port .works).status = some .badFrame := by
  decide +kernel

theorem test_request_frame_unknown_kind :
    code .works (after (.requestFrame .works (withCheck [1, 0, 7, 41, 5])) zone) = some .badArgument := by decide +kernel

/-- A reply DONE to START_RUN, read: length 9, class 1, kind 31, tag 8, code 0, no flags, check word. -/
theorem test_read_frame :
    ((after (.readFrame .works .completes) (after (.startRun .works 8) loaded)).port .works).out =
      [0, 9, 1, 31, 8, 0, 0, 255, 207] := by decide +kernel

theorem test_framing_error_keeps_head :
    let s := after (.framingError .works) (after (.readFrame .works .begins) (after (.startRun .works 8) loaded))
    code .works s = some .done ∧ (s.port .works).reading = .none := by decide +kernel

theorem test_read_status_clears :
    ((after (.readStatus .traffic 9) (atPort .traffic (fun ps => { ps with noticeLost := true }) zone)).port .traffic).noticeLost =
      false := by decide +kernel

/-- VEHICLE_NEW can be masked on the traffic port, TRIP not on the dispatch port. -/
theorem test_set_mask :
    ((after (.setMask .traffic 1 [NoticeKind.vehicleNew.code]) zone).port .traffic).masks = [.vehicleNew] ∧
      code .dispatch (after (.setMask .dispatch 1 [NoticeKind.trip.code]) zone) = some .badArgument := by decide +kernel

theorem test_set_line_mode :
    let ps := (after (.setLineMode .traffic 1 1 1 0) zone).port .traffic
    ps.lineMode = .pulse ∧ ps.gap = .us5 ∧ ps.pulse = .pulsing := by decide +kernel

theorem test_attention_gap_and_pulse :
    ((after (.attentionGapEnd .traffic)
        (atPort .traffic (fun ps => { ps with lineMode := .pulse, pulse := .gap }) (full .traffic zone))).port .traffic).pulse =
        .pulsing ∧
      ((after (.attentionPulseEnd .traffic)
        (atPort .traffic (fun ps => { ps with lineMode := .pulse, pulse := .pulsing }) zone)).port .traffic).pulse = .inactive := by
  decide +kernel

/-! ## Scanning -/

/-- The Scan List of chapter 2's example: entry 2 bound to S5. -/
def list : List ScanArgs :=
  [⟨3, 0, 0, 0, 0, 0, 0, 0, 255⟩, ⟨5, 2, 1, 0, 0, 0, 0, 0, 255⟩, ⟨20, 0, 1, 2, 5400, 0, 200, 0, 5⟩,
   ⟨0, 0, 1, 1, 2500, 0, 300, 0, 255⟩]

/-- The zone with that list, its entry `n` on channel `ch` CONVERTING. -/
def walk (n ch : Nat) (s : State) : State :=
  let t := after (.writeScan .dispatch 1 list 0 4) s
  atPort .dispatch (fun ps => { ps with queue := [] }) <| atBlocks (fun b =>
    { b with
      sq := { b.sq with mode := .converting, next := n }
      clc := { b.clc with inFlight := some (requested s.time ch .walk) }
      mq := { b.mq with threshold := 4 } }) t

/-- The answer of a channel: VALID, with the code. -/
def answer (ch : Nat) (v : Int) : Instr := .converterAnswer ⟨false, withCheck (BitVec.ofNat 8 ch :: wordBytes v ++ [1])⟩

/-- The bytes of C3's answer 410: check word 65536 − (3 + 1 + 154 + 1). -/
theorem test_answer_bytes : answer 3 410 = .converterAnswer ⟨false, [3, 1, 154, 1, 255, 97]⟩ := by decide

theorem test_write_scan :
    (after (.writeScan .dispatch 1 list 0 4) zone).blocks.sq.length = 4 ∧
      code .dispatch (after (.writeScan .dispatch 1 [⟨3, 0, 0, 2, 0, 0, 0, 0, 5⟩] 0 1) zone) = some .badArgument := by
  decide +kernel

theorem test_start_scan :
    (after (.startScan .dispatch 2) (after (.writeScan .dispatch 1 list 0 4) zone)).blocks.clc.inFlight =
      some ⟨3, 0, [3], ⟨1000, 2⟩, .walk⟩ := by decide +kernel

/-- Step 6 of the example: entry 1 recorded as NORMAL 6580. -/
theorem test_walk_records :
    (after (answer 5 6580) (walk 1 5 zone)).blocks.mq.records = [⟨1, 5, .normal, 6580, 1000, 0⟩] := by decide +kernel

/-- Step 9: 5310 < 5400 crosses LOW and sets LOW_VOLTAGE of S5. -/
theorem test_walk_crosses :
    let s := after (answer 20 5310) (walk 2 20 zone)
    kinds .dispatch s = [.limitCrossed, .sectionState] ∧ (s.blocks.section? 5).map (·.lowVoltage) = some true := by
  decide +kernel

theorem test_answer_expiry_fails_converter :
    (after .converterAnswerExpiry (at' 1002 (walk 1 5 zone))).blocks.clc.presence[0]? = some .failed := by decide +kernel

theorem test_settle_expiry :
    (after .scanSettleExpiry (at' 1002 (atBlocks (fun b =>
        { b with sq := { b.sq with mode := .settle, settle := some ⟨1000, 2⟩ }, clc := { b.clc with inFlight := none } })
      (walk 1 5 zone)))).blocks.clc.inFlight = some ⟨5, 0, [5], ⟨1002, 2⟩, .walk⟩ := by decide +kernel

theorem test_stop_and_resume :
    (after (.stopScan .dispatch 3) (walk 1 5 zone)).blocks.sq.stopPending = true ∧
      (after (.resumeScan .dispatch 3) (atBlocks (fun b => { b with clc := { b.clc with inFlight := none } })
        (atSq (fun q => { q with mode := .paused }) (walk 1 5 zone)))).blocks.sq.mode = .settle := by decide +kernel

/-- C9 is F8's, which is OPEN; C3 is F6's, which is CLOSED. -/
theorem test_calibrate :
    code .dispatch (after (.calibrate .dispatch 4 9) zone) = some .accepted ∧
      code .dispatch (after (.calibrate .dispatch 4 3) zone) = some .live := by decide +kernel

/-- Three records against a threshold of 4, lowered to 3: MEAS_READY. -/
theorem test_thresholds_and_readings :
    let r : MeasRecord := ⟨1, 5, .normal, 6580, 1000, 0⟩
    let s := atBlocks (fun b => { b with mq := { b.mq with records := [r, r, r], threshold := 4 } }) zone
    kinds .dispatch (after (.setMqThreshold .dispatch 5 3) s) = [.measReady] ∧
      (after (.readMeasurements .dispatch 5 2) s).blocks.mq.records = [r] := by decide +kernel

/-! ## Feeders -/

/-- F6 with its step armed: the sample of 2680 at 107 trips it and intertrips F7. -/
theorem test_step_trip :
    let s := after (answer 3 2680)
      (atFeeder 6 (fun x => { x with pu := { x.pu with step := some ⟨800, 1550, 104⟩ } }) (at' 107 (walk 0 3 zone)))
    stateOf 6 s = some .tripping ∧ (s.blocks.feeder? 6).map (·.cause) = some (some .step) ∧
      (s.blocks.feeder? 7).map (·.cause) = some (some .intertrip) ∧
      kinds .dispatch s = [.trip, .feederState, .trip, .feederState] := by decide +kernel

/-- A feeder that trips with a cause, from line time `n`. -/
def trips (f : Nat) (c : Cause) (n : Nat) : State → State :=
  atFeeder f fun x =>
    { x with
      state := .tripping, cause := some c, role := .leader, tripCoil := true
      stateTimer := some ⟨BitVec.ofNat 32 n, 100⟩ }

theorem test_open_report :
    let s := after (.contactReportOpen 6) (at' 142 (trips 6 .step 107 zone))
    stateOf 6 s = some (.deadTime .timing) ∧ (s.blocks.feeder? 6).map (·.stateTimer) = some (some ⟨142, 3000⟩) := by
  decide +kernel

theorem test_open_report_external :
    (after (.contactReportOpen 4) zone).blocks.feeder? 4 |>.map (fun x => (x.state, x.cause, x.role)) |>.any
      fun y => y = (.deadTime .timing, some .external, .leader) := by decide +kernel

theorem test_closed_report :
    let s := after (.contactReportClosed 8) (atFeeder 8 (fun x => { x with state := .closing, closeCoil := true }) zone)
    stateOf 8 s = some .closed ∧ (s.blocks.feeder? 8).map (·.closeCoil) = some false ∧
      (s.blocks.section? 6).map (·.state) = some .energised := by decide +kernel

/-- F7 fails to trip: B1 holds no other feeder that is CLOSED or CLOSING. -/
theorem test_trip_timer :
    let s := after (.tripTimerExpiry 7) (at' 207 (trips 7 .step 107 zone))
    stateOf 7 s = some .breakerFail ∧ stateOf 8 s = some .opened := by decide +kernel

/-- F6 fails to trip: F4, of the same bus, is intertripped. -/
theorem test_trip_timer_backs_up :
    let s := after (.tripTimerExpiry 6) (at' 207 (trips 6 .step 107 zone))
    stateOf 6 s = some .breakerFail ∧ stateOf 4 s = some .tripping := by decide +kernel

theorem test_close_timer :
    stateOf 8 (after (.closeTimerExpiry 8)
      (at' 1200 (atFeeder 8 (fun x => { x with state := .closing, stateTimer := some ⟨1000, 200⟩ }) zone))) =
      some .breakerFail := by decide +kernel

/-- A feeder in the dead time that began at 142, and its breaker open. -/
def waits (f : Nat) (c : Cause) (role : RecloseRole) (s : State) : State :=
  opened f (atFeeder f (fun x =>
    { x with state := .deadTime .timing, cause := some c, role := role, stateTimer := some ⟨142, 3000⟩ }) s)

theorem test_dead_time :
    stateOf 6 (after (.deadTimeExpiry 6) (at' 3142 (waits 6 .step .leader zone))) = some (.lineTest .precheck) ∧
      stateOf 6 (after (.deadTimeExpiry 6) (at' 3141 (waits 6 .step .leader zone))) = some (.deadTime .timing) := by
  decide +kernel

/-- F7, FOLLOWER, while F6 is not CLOSED. -/
theorem test_dead_time_follower :
    stateOf 7 (after (.deadTimeExpiry 7) (at' 3150 (waits 7 .intertrip .follower (waits 6 .step .leader zone)))) =
      some (.deadTime .awaitLeader) := by decide +kernel

theorem test_settle_timer :
    let s := after (.settleTimerExpiry 8) (at' 3346 (atFeeder 8 (fun x =>
      { x with state := .lineTest .settle, stateTimer := some ⟨3146, 200⟩, testContactor := true }) zone))
    stateOf 8 s = some (.lineTest .test) ∧ s.blocks.sq.inserts.map (fun i => (i.kind, i.who)) = [(.test, 8)] := by
  decide +kernel

theorem test_reset_timer :
    ((after (.resetTimerExpiry 6) (at' 66610 (atFeeder 6 (fun x =>
        { x with attempts := 2, role := .leader, resetTimer := some ⟨6610, 60000⟩ }) zone))).blocks.feeder? 6).map
      (fun x => (x.attempts, x.role)) = some (0, .none) := by decide +kernel

theorem test_stale_timer :
    stateOf 6 (after (.staleTimerExpiry 6) (at' 1020 (atFeeder 6 (fun x =>
      { x with
        conn := { x.conn with settings := { settings with policy := .trip } }
        pu := { x.pu with stale := some ⟨1000, 20⟩ } }) zone))) = some .tripping := by decide +kernel

theorem test_close_feeder :
    stateOf 8 (after (.closeFeeder .dispatch 1 8) zone) = some (.lineTest .precheck) ∧
      code .dispatch (after (.closeFeeder .dispatch 1 8) (atSection 6 (fun x => { x with inhibit := 1 }) zone)) =
        some .vehicleFault := by decide +kernel

theorem test_open_feeder :
    stateOf 4 (after (.openFeeder .dispatch 1 4) zone) = some .tripping ∧
      code .dispatch (after (.openFeeder .dispatch 1 8) zone) = some .done := by decide +kernel

theorem test_reset_feeder :
    stateOf 8 (after (.resetFeeder .dispatch 1 8) (atFeeder 8 (fun x => { x with state := .lockout }) zone)) = some .opened ∧
      code .dispatch (after (.resetFeeder .dispatch 1 8) zone) = some .wrongState := by decide +kernel

theorem test_set_protection :
    ((after (.setProtection .dispatch 1 6 { args with nRc := 1 })
        (atFeeder 6 (fun x => { x with attempts := 2 }) zone)).blocks.feeder? 6).map (fun x => (x.attempts, x.conn.settings.nRc)) =
      some (1, 1) := by decide +kernel

theorem test_read_feeder :
    code .dispatch (after (.readFeeder .dispatch 1 6) zone) = some .done ∧
      code .dispatch (after (.readFeeder .dispatch 1 5) zone) = some .noSuch ∧
      code .dispatch (after (.readFeeder .dispatch 1 16) zone) = some .badArgument := by decide +kernel

/-! ## Permits and sections -/

/-- Permit 701 over S5 and S6: F6 and F7 trip for it, F8 is HELD, the permit is PENDING. -/
def permitted : State := after (.isolate .works 1 701 [5, 6]) zone

theorem test_isolate :
    stateOf 6 permitted = some .tripping ∧ stateOf 7 permitted = some .tripping ∧ stateOf 8 permitted = some .held ∧
      permitted.blocks.permits = [⟨701, [5, 6], .pending, 1000⟩] ∧
      kinds .works permitted = [.sectionState, .sectionState, .permitState] := by decide +kernel

theorem test_release :
    let s := after (.release .works 2 701) (after (.contactReportOpen 7) (after (.contactReportOpen 6) permitted))
    s.blocks.permits = [] ∧ stateOf 6 s = some .opened ∧ (s.blocks.section? 5).map (·.state) = some .dead := by
  decide +kernel

theorem test_read_permit_and_section :
    code .works (after (.readPermit .works 2 702) zone) = some .noSuch ∧
      code .works (after (.readPermit .works 2 0) zone) = some .done ∧
      code .traffic (after (.readSection .traffic 2 5) zone) = some .done ∧
      code .dispatch (after (.readSection .dispatch 2 7) zone) = some .noSuch := by decide +kernel

/-! ## Points and their drives -/

/-- P2 synchronised and idle, its Drive Queue empty. -/
def idle : State :=
  atPoint (fun x => { x with link := ⟨.none, .synchronised, 0, false, none, none⟩ })
    (atBlocks (fun b => { b with dlc := { b.dlc with queue := [] } }) zone)

/-- A drive of P2 to the right, with tag 41 at the head. -/
def drives (d : DriveState) : State → State :=
  atPoint fun x =>
    { x with
      drive := d, target := some .right, queue := [⟨.right, some 214, 41, none, false⟩]
      link := { x.link with work := .throw, sends := 1 } }

/-- The THROW RIGHT with bit 0 on the line since 10003. -/
def sends (s : State) : State :=
  atBlocks (fun b => { b with dlc := { b.dlc with link := some ⟨2, false, withCheck [2, 1, 2, 0], ⟨10003, 30⟩⟩ } })
    (drives .sending s)

def driveState (s : State) : Option DriveState := (s.blocks.point? 2).map (·.drive)

theorem test_reserve :
    driveState (after (.reserve .traffic 1 2 1 214 41) idle) = some .queued ∧
      (after (.reserve .traffic 1 2 1 214 41) idle).blocks.dlc.queue = [2] := by decide +kernel

theorem test_cancel :
    let s := after (.cancel .traffic 2 2 41) (after (.reserve .traffic 1 2 1 214 41) idle)
    (s.blocks.point? 2).map (·.queue) = some [] ∧ driveState s = some .idle ∧ s.blocks.dlc.queue = [] := by decide +kernel

theorem test_flush_and_cancel_vehicle :
    ((after (.flushPoint .traffic 2 2) (drives .moving idle)).blocks.point? 2).map (·.queue) = some [] ∧
      ((after (.cancelVehicle .traffic 2 214) (drives .moving idle)).blocks.point? 2).map (·.queue) = some [] := by
  decide +kernel

theorem test_hold_and_free :
    code .works (after (.holdPoint .works 1 2) (drives .moving idle)) = some .accepted ∧
      driveState (after (.holdPoint .works 1 2) idle) = some .worksHeld ∧
      driveState (after (.freePoint .works 1 2) (after (.holdPoint .works 1 2) idle)) = some .idle := by decide +kernel

theorem test_reset_point :
    driveState (after (.resetPoint .traffic 1 2) (atPoint (fun x => { x with failed := true, drive := .failed }) idle)) =
      some .idle := by decide +kernel

theorem test_read_point :
    code .traffic (after (.readPoint .traffic 1 2) zone) = some .done ∧
      code .traffic (after (.readPoint .traffic 1 3) zone) = some .noSuch := by decide +kernel

/-- The right contact closes under the left's opening: REACHED, and tag 41 becomes ACTIVE. -/
theorem test_detection_contact :
    let s := after (.detectionContactChange 2 .right .closed)
      (at' 10980 (after (.detectionContactChange 2 .left .opened) (drives .moving idle)))
    driveState s = some .idle ∧ (s.blocks.point? 2).map (fun x => x.queue.map (·.active)) = some [some 10980] := by
  decide +kernel

theorem test_drive_start :
    ((after .driveTransactionStart (at' 10003 (atBlocks (fun b => { b with dlc := { b.dlc with queue := [2] } })
        (drives .queued idle)))).blocks.dlc.link).map (fun x => (x.resync, x.bytes)) =
      some (false, [2, 1, 2, 0, 255, 251]) := by decide +kernel

theorem test_drive_resync :
    ((after .driveTransactionStart zone).blocks.dlc.link).map (fun x => (x.resync, x.bytes)) =
      some (true, [2, 2, 255, 252]) := by decide +kernel

/-- ACCEPT(0): MOVING, the bit flipped. -/
theorem test_drive_accept :
    let s := after (.driveAnswer .sound (withCheck [2, 1, 0])) (at' 10009 (sends idle))
    driveState s = some .moving ∧ (s.blocks.point? 2).map (·.seqBit) = some true := by decide +kernel

/-- BUSY at the first send: a delay of 50 ms. -/
theorem test_drive_busy :
    ((after (.driveAnswer .sound (withCheck [2, 3, 0])) (at' 10009 (sends idle))).blocks.point? 2).map (·.link.busyDelay) =
      some (some ⟨10009, 50⟩) := by decide +kernel

theorem test_drive_expiry :
    ((after .driveAnswerExpiry (at' 10033 (sends idle))).blocks.point? 2).map (·.link.sends) = some 2 := by decide +kernel

/-- The first send's answer, told late, is not taken for the resend's. -/
theorem test_drive_late :
    let s := after .driveAnswerExpiry (at' 10033 (sends idle))
    after (.driveAnswer .late (withCheck [2, 1, 0])) s = s ∧
      driveState (after (.driveAnswer .sound (withCheck [2, 1, 0])) s) = some .moving := by decide +kernel

/-- A resend that the check refuses discards send count and bit sent. -/
theorem test_drive_refused :
    ((after .driveAnswerExpiry (at' 10033 (atPoint (fun x => { x with count := 1, link := { x.link with bitSent := true } })
        (sends idle)))).blocks.point? 2).map (fun x => (x.drive, x.link.work, x.link.sends, x.link.bitSent)) =
      some (.waitClear, .none, 0, false) := by decide +kernel

theorem test_busy_delay :
    (after (.busyDelayExpiry 2) (at' 10059 (atPoint (fun x =>
      { x with link := { x.link with busyDelay := some ⟨10009, 50⟩ } }) (drives .sending idle)))).blocks.dlc.queue = [2] := by
  decide +kernel

/-- T_point with attempt 0 queues the re-command, with attempt 1 it fails the point. -/
theorem test_point_timer :
    let s (n : Nat) := at' 14009 (atPoint (fun x =>
      { x with attempt := n, link := { x.link with tPoint := some ⟨10009, 4000⟩, work := .none } }) (drives .moving idle))
    driveState (after (.pointTimerExpiry 2) (s 0)) = some .queued ∧
      driveState (after (.pointTimerExpiry 2) (s 1)) = some .failed := by decide +kernel

theorem test_hold_timer :
    kinds .traffic (after (.holdTimerExpiry 2) (at' 140400 (atPoint (fun x =>
      { x with queue := [⟨.left, some 307, 42, some 20400, false⟩], hold := some ⟨20400, 120000⟩ }) idle))) =
      [.reservationExpired, .pointState] := by decide +kernel

/-! ## Detectors and vehicles -/

/-- D10's contact a closed alone at `n`. -/
def entering (n : Nat) (s : State) : State :=
  { s with pins := { s.pins with detA := put s.pins.detA 10 ⟨BitVec.ofNat 32 n, true⟩ } }

/-- A pass AB at D10 waits in the Pass List and counts a collector into P2. -/
theorem test_pass :
    let s := after (.detectorContactClosing 10 .b) (entering 900 zone)
    s.blocks.passes = [⟨.contact, 10, .ab, 1000⟩] ∧ (s.blocks.point? 2).map (·.count) = some 1 := by decide +kernel

theorem test_no_pass :
    (after (.detectorContactClosing 10 .b) (entering 1000 zone)).blocks.passes = [] ∧
      (after (.detectorContactClosing 10 .b) zone).blocks.passes = [] ∧
      look (after (.detectorContactOpening 10 .a) (entering 900 zone)).pins.detA 10 = none := by decide +kernel

/-- Vehicle 214 in S4. -/
def vehicle (v sec : Nat) : Vehicle := ⟨v, false, some sec, none, 1000, false, []⟩

def tracked (vs : List Vehicle) : State → State := atBlocks fun b => { b with vt := ⟨vs, true⟩ }

def heard (m : RxBody) : State → State := atRadio fun r => { r with rxQueue := [⟨m, 1038⟩], txAck := true }

def located (n : Nat) (s : State) : List (Option Nat) := (s.blocks.vt.vehicles.filter fun v => v.id = n).map (·.sec)

/-- POS 214 D10 AB finds the contact waiting: 214 moves from S4 to S5. -/
theorem test_take_pos :
    let s := after .vtTakeTelegram (heard (.pos 214 10 .ab)
      (atBlocks (fun b => { b with passes := [⟨.contact, 10, .ab, 1000⟩] }) (tracked [vehicle 214 4] zone)))
    located 214 s = [some 5] ∧ s.blocks.passes = [] ∧ kinds .traffic s = [.vehicleMoved] := by decide +kernel

/-- A dewirement at D12 blocks P2, and is acknowledged after the block. -/
theorem test_take_flt :
    let s := after .vtTakeTelegram (heard (.flt 307 .dewire 3 12) (tracked [vehicle 307 5] idle))
    driveState s = some .blocked ∧ s.blocks.rlc.txQueue = [.ptBlock 2 12, .fltAck 307 .dewire] ∧
      (s.blocks.section? 5).map (·.inhibit) = some 1 := by decide +kernel

/-- 520's entry reaches T_match: an unconfirmed move to S5. -/
theorem test_pass_expiry :
    let s := after .passEntryExpiry (at' 3000 (atBlocks (fun b => { b with passes := [⟨.telegram 520, 10, .ab, 1000⟩] })
      (tracked [vehicle 520 4] zone)))
    located 520 s = [some 5] ∧ s.blocks.passes = [] := by decide +kernel

theorem test_silence :
    ((after (.silenceExpiry 214) (at' 61000 (tracked [vehicle 214 4] zone))).blocks.vt.vehicles.map (·.lost)) = [true] ∧
      ((after (.silenceExpiry 214) (at' 60999 (tracked [vehicle 214 4] zone))).blocks.vt.vehicles.map (·.lost)) = [false] := by
  decide +kernel

theorem test_retire_and_read_vehicle :
    (after (.retire .traffic 1 214) (tracked [vehicle 214 4] zone)).blocks.vt.vehicles = [] ∧
      code .traffic (after (.readVehicle .traffic 1 214) (tracked [vehicle 214 4] zone)) = some .done ∧
      code .traffic (after (.readVehicle .traffic 1 215) (tracked [vehicle 214 4] zone)) = some .noSuch := by decide +kernel

theorem test_clear_fault :
    let s := after (.clearFault .traffic 1 520 2)
      (tracked [{ vehicle 520 5 with faults := [⟨.leakage, 35, none, 900, 900⟩] }] zone)
    code .traffic s = some .done ∧ kinds .traffic s = [.faultCleared] ∧ s.blocks.vt.vehicles = [vehicle 520 5] := by
  decide +kernel

/-! ## Radio -/

/-- A telegram whose bytes have all arrived, the last at 996. -/
def received (bytes : List Byte) : State → State :=
  atRadio fun r =>
    { r with rxEnable := true, rxAck := true, inGap := false, lastByte := 996, assembling := some (bytes.map fun x => ⟨x, false⟩) }

theorem test_gap_judges :
    (after .receiveIdleGap (received (withCheck [17, 1, 0, 214, 10, 0]) zone)).blocks.rlc.rxQueue =
        [⟨.pos 214 10 .ab, 996⟩] ∧
      (after .receiveIdleGap (received [17, 1, 1, 214, 10, 0, 255, 14] zone)).blocks.rlc.badRun = 1 := by decide +kernel

/-- Four bytes on group 17 with seven bad before them: RADIO_DEGRADED. -/
theorem test_gap_degrades :
    kinds .traffic (after .receiveIdleGap (received [17, 1, 0, 214] (atRadio (fun r => { r with badRun := 7 }) zone))) =
      [.radioDegraded] := by decide +kernel

theorem test_byte_arrives :
    (after (.radioByteArrival 17 false) (atRadio (fun r => { r with rxEnable := true, rxAck := true }) zone)).blocks.rlc.assembling =
      some [⟨17, false⟩] := by decide +kernel

theorem test_radio_requests :
    (after (.radioEnable .traffic 1 1 1) zone).blocks.rlc.txAck = true ∧
      (after (.flushRadio .traffic 1) (heard (.pos 214 10 .ab) zone)).blocks.rlc.rxQueue = [] ∧
      code .dispatch (after (.allStop .dispatch 1) zone) = some .wrongState := by decide +kernel

/-- ALL_STOP goes before the queue; its bytes are group 17, kind 20, 85, 170. -/
theorem test_transmit :
    let s := after .transmitStart (atRadio (fun r => { r with txEnable := true, txAck := true, allStop := true, txQueue := [.secLive 5] }) zone)
    s.blocks.rlc.sending = some ⟨.allStop, [17, 20, 85, 170, 254, 220]⟩ ∧ s.blocks.rlc.txQueue = [.secLive 5] ∧
      (after .transmitEnd s).blocks.rlc.gapAfterSend = some ⟨1000, 3⟩ := by decide +kernel

/-! ## Steps -/

theorem test_step_takes_the_front :
    (step { zone with pending := [.lineTimeTick, .powerOnReset] } |> fun o => match o with
      | .next t => decide (t.time = 1001 ∧ t.pending = [.powerOnReset])
      | .fault _ => false
      | .refused _ => false) = true := by decide +kernel

/-! ## The hypotheses of the statements are met -/

/-- The command answers a next state. -/
def runs (i : Instr) (s : State) : Bool :=
  match exec i s with
  | .next _ => true
  | .fault _ => false
  | .refused _ => false

theorem next_of_runs (i : Instr) (s : State) (h : runs i s = true) : ∃ t, exec i s = .next t := by
  unfold runs at h
  split at h <;> simp_all

theorem each_feeder {b : Blocks} {P : Nat → Feeder → Prop} (h : ∀ f < 16, ∀ x, b.feeder? f = some x → P f x) :
    ∀ f x, b.feeder? f = some x → P f x := fun f x hx => h f (look_lt _ _ _ hx) x hx

theorem each_section {b : Blocks} {P : Nat → SectionRec → Prop} (h : ∀ k < 24, ∀ x, b.section? k = some x → P k x) :
    ∀ k x, b.section? k = some x → P k x := fun k x hx => h k (look_lt _ _ _ hx) x hx

theorem each_point {b : Blocks} {P : Nat → Point → Prop} (h : ∀ k < 16, ∀ x, b.point? k = some x → P k x) :
    ∀ k x, b.point? k = some x → P k x := fun k x hx => h k (look_lt _ _ _ hx) x hx

/-- Two tables of one size that agree on their slots agree everywhere. -/
theorem each_slot {α β : Type} {n : Nat} {g : α → β} {t : Vector (Option α) n} {u : Vector (Option β) n}
    (h : ∀ i < n, (look t i).map g = look u i) : ∀ i, (look t i).map g = look u i := by
  intro i
  by_cases hi : i < n
  · exact h i hi
  · have h1 : look t i = none := by simp [look, Vector.getElem?_eq_none (Nat.le_of_not_lt hi)]
    have h2 : look u i = none := by simp [look, Vector.getElem?_eq_none (Nat.le_of_not_lt hi)]
    simp [h1, h2]

def f4 : Feeder := (zone.blocks.feeder? 4).get (by decide +kernel)
def f6 : Feeder := (zone.blocks.feeder? 6).get (by decide +kernel)
def f8 : Feeder := (zone.blocks.feeder? 8).get (by decide +kernel)
def s5 : SectionRec := (zone.blocks.section? 5).get (by decide +kernel)
def s6 : SectionRec := (zone.blocks.section? 6).get (by decide +kernel)
def p2 : Point := (idle.blocks.point? 2).get (by decide +kernel)

/-- Feeder `f` stands as `x`. -/
def withFeeder (f : Nat) (x : Feeder) : State → State := atBlocks fun b => b.setFeeder f x

/-- Point 2 stands as `x`. -/
def withPoint (x : Point) : State → State := atBlocks fun b => b.setPoint 2 x

theorem witness_StepRunsTheFrontCommand :
    ({ zone with pending := [.lineTimeTick] } : State).pending = [.lineTimeTick] ∧ zone.pending = [] :=
  ⟨rfl, by decide +kernel⟩

theorem witness_TimeAndInputsMoveByTheirOwnCommands :
    loaded.mode = .config ∧ fieldEvent (.contactReportOpen 15) = true ∧
      (∀ leg c, Instr.lineTimeTick ≠ .detectionContactChange 15 leg c) ∧
      ∀ det side, Instr.lineTimeTick ≠ .detectorContactClosing det side ∧
        Instr.lineTimeTick ≠ .detectorContactOpening det side := by
  refine ⟨by decide +kernel, rfl, by simp, by simp⟩

/-- A settings request in RUN and a load in CONFIG meet the hypotheses. -/
theorem witness_RunKeepsTheLoadedTables :
    ((∃ t, exec (.setProtection .dispatch 1 6 args) zone = .next t) ∧ zone.mode = .run) ∧
      (∃ t, exec (.loadSection .works 1 7) loaded = .next t) ∧ loaded.mode = .config ∧
      (∀ p tag f a, Instr.loadSection .works 1 7 ≠ .setProtection p tag f a) ∧
      (∀ p tag, Instr.loadSection .works 1 7 ≠ .restart p tag) ∧ (∀ p tag, Instr.loadSection .works 1 7 ≠ .startRun p tag) ∧
      ∀ p bytes, Instr.loadSection .works 1 7 ≠ .requestFrame p bytes := by
  refine ⟨⟨next_of_runs _ _ (by decide +kernel), by decide +kernel⟩, next_of_runs _ _ (by decide +kernel), by decide +kernel,
    ?_, ?_, ?_, ?_⟩ <;> simp

theorem witness_BlocksChangeByTheirOwnCommands :
    let i : Instr := .openFeeder .dispatch 1 4
    (∃ t, exec i zone = .next t) ∧ movesVehicles i = false ∧ measures i = false ∧ worksRadio i = false ∧ worksDriveLink i = false ∧
      (permitted.blocks.permits.map (·.number)).Nodup ∧ ∃ t, exec i permitted = .next t := by
  refine ⟨next_of_runs _ _ (by decide +kernel), rfl, rfl, rfl, rfl, by decide +kernel, next_of_runs _ _ (by decide +kernel)⟩

/-! ### What every step keeps -/

/-- A state with something of everything: vehicle 214 in S5 and a pass that waits, a reservation at P2, permit 9 over S6, and a
command in front. -/
def rich : State :=
  let s := after (.detectorContactClosing 10 .b) (entering 900 zone)
  let s := after .vtTakeTelegram (heard (.pos 214 10 .ab) s)
  let s := after .vtTakeTelegram (heard (.flt 214 .traction 1 255) s)
  let s := after .vtTakeTelegram (heard (.pos 214 12 .ab) s)
  let s := after (.isolate .works 1 9 [6]) (after (.reserve .traffic 1 2 1 214 41) s)
  { s with pending := [.lineTimeTick] }

theorem steps (s : State) (h : (match step s with | .next _ => true | .fault _ => false | .refused _ => false) = true) :
    ∃ t, step s = .next t := by
  split at h <;> simp_all

theorem rich_steps : ∃ t, step rich = .next t := steps _ (by decide +kernel)

theorem rich_is_rich :
    located 214 rich = [some 5] ∧ rich.blocks.passes.length = 1 ∧ (rich.blocks.point? 2).map (·.queue.length) = some 1 ∧
      stateOf 8 rich = some .held ∧ (rich.blocks.section? 5).map (·.occupancy) = some 1 := by decide +kernel

theorem witness_StepKeepsPortsBounded : PortsBounded rich ∧ ∃ t, step rich = .next t :=
  ⟨fun p => by cases p <;> decide +kernel, rich_steps⟩

theorem witness_StepKeepsOutputsFollowingStates : OutputsFollow rich ∧ ∃ t, step rich = .next t :=
  ⟨each_feeder (by decide +kernel), rich_steps⟩

theorem witness_StepKeepsThetaInRange : ThetaInRange rich ∧ ∃ t, step rich = .next t :=
  ⟨each_feeder (by decide +kernel), rich_steps⟩

theorem witness_StepKeepsPointsBounded : PointsBounded rich ∧ ∃ t, step rich = .next t :=
  ⟨each_point (by decide +kernel), rich_steps⟩

theorem loaded_idle : ConfigIdle loaded := fun _ => by decide +kernel

theorem witness_StepKeepsConfigIdle :
    ConfigIdle loaded ∧ loaded.mode = .config ∧ (∃ t, step loaded = .next t) ∧ ConfigIdle rich ∧ ∃ t, step rich = .next t :=
  ⟨loaded_idle, by decide +kernel, steps _ (by decide +kernel), fun h => absurd h (by decide +kernel), rich_steps⟩

/-- RUN agrees with its tables where it agrees slot by slot. -/
theorem agrees {s : State} (ht : configFault s.net = none ∧ s.derived = derive s.net)
    (hf : ∀ f < 16, (s.blocks.feeder? f).map (fun x : Feeder => x.conn) = look s.net.feeders f)
    (hs : ∀ k < 24, (s.blocks.section? k).isSome = (look s.net.sections k).isSome)
    (hp : ∀ pt < 16, (s.blocks.point? pt).map (fun x : Point => x.frame) = look s.net.points pt) : RunAgrees s := fun _ =>
  ⟨ht.1, ht.2, each_slot hf, fun k => by
    by_cases h : k < 24
    · exact hs k h
    · simp [Blocks.section?, look, Vector.getElem?_eq_none (Nat.le_of_not_lt h)], each_slot hp⟩

theorem rich_agrees : RunAgrees rich := by apply agrees <;> decide +kernel

/-- A waiting insert, a point at work and a fault list of two codes, in `rich` and with a throw on the line. -/
theorem witness_StepKeepsCapacities :
    CapacitiesHeld rich ∧ RunAgrees rich ∧ QueuesHeld rich ∧ rich.blocks.dlc.queue = [2] ∧
      rich.blocks.vt.vehicles.map (·.faults.length) = [1] ∧ ∃ t, step rich = .next t := by
  have hq : rich.blocks.dlc.queue = [2] := by decide +kernel
  have hw : rich.blocks.sq.waiting = [] := by decide +kernel
  have hp : ∃ x, rich.blocks.point? 2 = some x ∧ x.link.work ≠ .none ∧ x.link.busyDelay = none :=
    ⟨(rich.blocks.point? 2).get (by decide +kernel), by decide +kernel⟩
  have hl : rich.blocks.dlc.link = none := by decide +kernel
  refine ⟨?_, rich_agrees, ⟨by decide +kernel, fun _ => hw, by simp [hw], ⟨by simp [hw], by simp [hw]⟩, ?_, by decide +kernel⟩,
    hq, by decide +kernel, rich_steps⟩
  · and_intros
    on_goal 7 => exact each_feeder (by decide +kernel)
    all_goals decide +kernel
  · exact ⟨fun _ => hl, by simp [hq], by simp [hq], by simpa [hq] using hp, by simp [hl], each_point (by decide +kernel)⟩

theorem witness_StepKeepsRunOnCheckedTables : RunAgrees rich ∧ rich.mode = .run ∧ ∃ t, step rich = .next t :=
  ⟨rich_agrees, by decide +kernel, rich_steps⟩

theorem witness_StepKeepsVehicleCounts : CountsAgree rich ∧ ∃ t, step rich = .next t :=
  ⟨⟨by decide +kernel, fun h => absurd h (by decide +kernel), each_section (by decide +kernel)⟩, rich_steps⟩

theorem witness_StepKeepsPermitCounts : PermitsAgree rich ∧ ∃ t, step rich = .next t :=
  ⟨⟨by decide +kernel, by decide +kernel, fun h => absurd h (by decide +kernel), each_section (by decide +kernel)⟩, rich_steps⟩

theorem witness_StepKeepsPassesMatched : PassesMatched rich ∧ ∃ t, step rich = .next t := ⟨⟨by decide +kernel, by decide +kernel⟩, rich_steps⟩

/-- The feeder is neither in a dead time nor in a line test. -/
def untimed : FeederState → Bool
  | .deadTime _ | .lineTest _ => false
  | _ => true

/-- What SectionsObeyed asks of a feeder, as a check. -/
def obeying (x : Feeder) (z : SectionRec) : Bool :=
  decide (0 < z.permits → x.state = .held ∨ x.state = .breakerFail ∨ (x.state = .tripping ∧ x.cause = some .permit)) &&
    decide (z.permits = 0 → x.state ≠ .held ∧ (x.state = .tripping → x.cause ≠ some .permit)) &&
    decide (0 < z.inhibit → untimed x.state = true)

/-- The contact reads as ContactsAgree says. -/
def contactFits (c : Contact) (x : Feeder) : Bool :=
  match x.state with
  | .closed | .tripping => decide (c = .closed)
  | .breakerFail => true
  | _ => decide (c = .opened)

/-- A feeder feeds the section by R91. -/
def feeding (s : State) (sec f : Nat) : Bool :=
  (s.blocks.feeder? f).any fun x =>
    decide (x.conn.sec = sec ∧ (x.state = .closed ∨ (x.state = .tripping ∧ s.env.aux f = .closed)))

/-- What SectionsObeyed asks of the sections, as a check. -/
def derivedFits (s : State) : Bool :=
  (List.range 24).all fun sec => (s.blocks.section? sec).all fun z =>
    decide (z.permits = 0 → z.state = if (List.range 16).any (feeding s sec) then .energised else .dead)

theorem feeding_iff (s : State) (sec : Nat) : (List.range 16).any (feeding s sec) = true ↔
    ∃ f x, s.blocks.feeder? f = some x ∧ x.conn.sec = sec ∧
      (x.state = .closed ∨ (x.state = .tripping ∧ s.env.aux f = .closed)) := by
  simp only [List.any_eq_true, List.mem_range, feeding, Option.any_eq_true_iff_get, decide_eq_true_eq]
  constructor
  · rintro ⟨f, -, hs, h⟩
    exact ⟨f, _, (Option.some_get hs).symm, h⟩
  · rintro ⟨f, x, hx, h⟩
    exact ⟨f, look_lt _ _ _ hx, by simp [hx], by simpa [hx] using h⟩

theorem obeys (s : State) (hw : WaitersWait s) (hd : derivedFits s = true)
    (hc : ∀ f < 16, ∀ x, s.blocks.feeder? f = some x → contactFits (s.env.aux f) x = true)
    (h : ∀ f < 16, ∀ x, s.blocks.feeder? f = some x → ((s.blocks.section? x.conn.sec).all fun z => obeying x z) = true) :
    SectionsObeyed s := by
  refine ⟨hw, fun f x hx => ?_, fun sec z hz hp => ?_, fun f x z hx hz => ?_⟩
  · have := hc f (look_lt _ _ _ hx) x hx
    revert this
    cases hst : x.state <;> simp [contactFits, hst]
  · have := (List.all_eq_true.mp hd) sec (List.mem_range.mpr (look_lt _ _ _ hz))
    simp only [hz, Option.all_some, decide_eq_true_eq] at this
    rw [← feeding_iff, this hp]
    split <;> simp_all
  have := h f (look_lt _ _ _ hx) x hx
  simp only [hz, Option.all_some, obeying, Bool.and_eq_true, decide_eq_true_eq] at this
  obtain ⟨⟨h1, h2⟩, h3⟩ := this
  refine ⟨h1, h2, fun hi => ⟨fun ph hph => ?_, fun ph hph => ?_⟩⟩ <;> simpa [untimed, hph] using h3 hi

/-- With no waiter, what is waited for is vacuous. -/
theorem none_wait {s : State} (h : s.blocks.sq.waiting = []) : WaitersWait s := by simp [WaitersWait, h]

theorem rich_obeys : SectionsObeyed rich := by apply obeys _ (none_wait (by decide +kernel)) <;> decide +kernel

theorem witness_StepKeepsSectionsObeyed :
    ConfigIdle rich ∧ RunAgrees rich ∧ SectionsObeyed rich ∧ ∃ t, step rich = .next t :=
  ⟨fun h => absurd h (by decide +kernel), rich_agrees, rich_obeys, rich_steps⟩

/-! ### Requests and ports -/

theorem witness_RequestsRefusedBeforeTheirOwnChecks :
    let i : Instr := .reserve .traffic 9 2 1 214 41
    requestOf i = some (.traffic, 9, .reserve) ∧ 32 ≤ ((full .traffic zone).port .traffic).queue.length ∧
      (Roomy .works zone ∧ .reserve ∉ authority .works) ∧ (Roomy .traffic loaded ∧ .reserve ∈ authority .traffic) ∧
      (loaded.mode = .config ∧ .reserve ∉ configRequests) ∧
      (Roomy .works zone ∧ .startRun ∈ authority .works ∧ zone.mode = .run ∧ .startRun ∈ loadRequests) := by decide +kernel

/-- A request that replies into one free place, and a RESTART that is DONE. -/
theorem witness_ReplyComesBeforeItsNotices :
    (let s := atPort .traffic (fun ps => { ps with queue := ps.queue.tail }) (full .traffic zone)
     (s.port .traffic).queue.length = 31 ∧ requestOf (.reserve .traffic 9 2 1 214 41) = some (.traffic, 9, .reserve) ∧
       Roomy .traffic s ∧ ∃ t, exec (.reserve .traffic 9 2 1 214 41) s = .next t) ∧
      requestOf (.restart .works 3) = some (.works, 3, .restart) ∧ Roomy .works zone ∧
      (∃ t, exec (.restart .works 3) zone = .next t) ∧ code .works (after (.restart .works 3) zone) = some .done := by
  and_intros <;> first | decide +kernel | exact next_of_runs _ _ (by decide +kernel)

/-- No frame; a check that fails; kinds 0 and 41; a RESERVE cut short; a whole READ_STATUS. -/
theorem witness_RequestFramesCarryRequests :
    readRequestFrame [] = none ∧
      ((readRequestFrame [1, 0, 7, 38, 5, 255, 204]).map (·.ok) = some false) ∧
      ((readRequestFrame (withCheck [1, 0, 7, 0, 5])).map fun fr => (fr.ok, fr.kind)) = some (true, 0) ∧
      ((readRequestFrame (withCheck [1, 0, 7, 41, 5])).map fun fr => (fr.ok, fr.kind)) = some (true, 41) ∧
      ((readRequestFrame (withCheck [1, 0, 7, 15, 5])).map fun fr => (fr.ok, fr.kind, fr.request .traffic)) =
        some (true, ReqKind.reserve.code, none) ∧ Taken .traffic .reserve zone ∧ Roomy .works zone ∧
      ((readRequestFrame (withCheck [1, 0, 7, 38, 5])).map fun fr => (fr.ok, fr.request .works)) =
        some (true, some (.readStatus .works 5)) := by decide +kernel

/-! ### Configuration -/

/-- Settings that fit with timers at and beyond their ends, and a θ_alarm above θ_trip that does not. -/
theorem witness_SettingsAreTakenByTheirRanges :
    ThresholdsFit args ∧ ThresholdsFit { args with tDead := 99, tStale := 501, nRc := 4, w := 16, k := 15, iInst := 12000 } ∧
      ¬ ThresholdsFit { args with thetaAlarm := 31001 } ∧ ¬ ThresholdsFit { args with policy := 2 } :=
  by and_intros <;> decide

theorem witness_LoadsStoreWholeRecords :
    loaded.mode = .config ∧ Roomy .works loaded ∧
      (let a : NetworkArgs := ⟨4, 99, 601, 4000, 0, 254, 1⟩
       1 ≤ a.busCount ∧ a.busCount ≤ 4 ∧ a.radioGroup ≤ 254 ∧ a.leakage ≤ 1) ∧
      (∃ x, readProtection args = some (x, false)) ∧
      ¬ ThresholdsFit { args with vBf := 6001 } := by
  and_intros <;> first | decide +kernel | exact ⟨settings, by decide⟩

theorem tables_pass : configFault tables = none := by decide +kernel

/-- The zone passes and is what the conditions of R12 say; a fifth bus is not. -/
theorem witness_StartRunChecksAreThoseOfTheTable :
    configFault tables = none ∧
      configFault { tables with feeders := put tables.feeders 8 ⟨6, 2, 9, 10, 11, settings⟩ } ≠ none := by decide +kernel

/-- Faults of several items at each step of the table: the first item is reported, and within it the first of its order. -/
theorem witness_StartRunChecksAreThoseOfTheTable_first :
    configFault { tables with network := none } = some ⟨.network, none, .notLoaded, none⟩ ∧
      configFault { tables with sections := NetTables.empty.sections } = some ⟨.network, none, .noSections, none⟩ ∧
      (let at8 (ch : Nat × Nat × Nat) := put tables.feeders 8 ⟨6, 1, ch.1, ch.2.1, ch.2.2, settings⟩
       configFault { tables with feeders := put (at8 (9, 10, 9)) 9 ⟨23, 3, 0, 1, 2, settings⟩ } =
           some ⟨.feeder, some 8, .channelShared, some 9⟩ ∧
         configFault { tables with feeders := at8 (9, 8, 3) } = some ⟨.feeder, some 8, .channelShared, some 8⟩) ∧
      configFault { tables with sections := put (put tables.sections 22 ()) 23 () } =
        some ⟨.sect, some 22, .noFeeder, some 0⟩ ∧
      configFault { tables with detectors := put (put tables.detectors 20 ⟨some 9, some 8⟩) 47 ⟨none, none⟩ } =
        some ⟨.detector, some 20, .noSuchSection, some 9⟩ ∧
      (let at3 (r : PointRec) : NetTables := { tables with points := put tables.points 3 r }
       configFault (at3 ⟨5, 14, 15, 13, .ab, .ab, .ab⟩) = some ⟨.point, some 3, .noSuchDetector, some 14⟩ ∧
         configFault (at3 ⟨6, 13, 10, 12, .ab, .ab, .ab⟩) = some ⟨.point, some 3, .notOnBoundary, some 13⟩ ∧
         configFault (at3 ⟨5, 11, 11, 12, .ab, .ab, .ab⟩) = some ⟨.point, some 3, .detectorReused, some 11⟩ ∧
         configFault (at3 ⟨5, 11, 12, 11, .ab, .ab, .ab⟩) = some ⟨.point, some 3, .detectorReused, some 12⟩) := by
  decide +kernel

theorem witness_DerivedListsAreThoseOfTheTables : configFault tables = none := tables_pass

theorem witness_StartRunGivesTheFirstStates :
    loaded.mode = .config ∧ Roomy .works loaded ∧ configFault loaded.net = none ∧
      ({ loaded with net := NetTables.empty } : State).mode = .config ∧
      (∃ c, configFault ({ loaded with net := NetTables.empty } : State).net = some c) := by
  and_intros
  on_goal 5 => exact ⟨(configFault NetTables.empty).get (by decide +kernel), by simp⟩
  all_goals decide +kernel

theorem witness_ResetsReturnToConfig :
    (Roomy .works permitted ∧ permitted.blocks.permits ≠ []) ∧ Roomy .works zone ∧ zone.blocks.permits = [] := by
  decide +kernel

/-- Nothing that runs; rests that the tick ends and leaves; a gap after a transmission. -/
theorem witness_TickAdvancesLineTime :
    (zone.blocks.clc.rest = none ∧ zone.blocks.dlc.rest = none ∧ zone.blocks.rlc.gapAfterSend = none) ∧
      (let s := at' 1 State.reset
       s.blocks.clc.rest = some ⟨0, 2⟩ ∧ 2 ≤ (s.time + 1 - 0).toNat ∧ s.blocks.dlc.rest = some ⟨0, 30⟩ ∧
         (s.time + 1 - 0).toNat < 30) ∧
      State.reset.blocks.clc.rest = some ⟨0, 2⟩ ∧ (State.reset.time + 1 - 0).toNat < 2 ∧
      (atRadio (fun r => { r with gapAfterSend := some ⟨999, 3⟩ }) zone).blocks.rlc.gapAfterSend = some ⟨999, 3⟩ := by
  decide +kernel

/-! ### Ports -/

def state (f : Nat) (n : Nat) : Notice := ⟨1000, .feederState f .closed none n .none⟩

/-- A dispatch queue with the same feeder's state twice, being read. -/
def reading : State :=
  atPort .dispatch (fun ps => { ps with queue := [.notice (state 6 0), .notice (state 7 0), .notice (state 6 1)], reading := .head })
    zone

theorem witness_ReadFramesDeliverTheHead :
    ((zone.port .dispatch).reading = .none ∧ (zone.port .dispatch).queue = []) ∧
      ((full .works zone).port .works).queue = .reply ⟨0, 1, .done, false, .none⟩ :: List.replicate 31 (.reply ⟨0, 1, .done, false, .none⟩) ∧
      ((atPort .dispatch (fun ps => { ps with reading := .empty }) zone).port .dispatch).reading = .empty ∧
      ((atPort .dispatch (fun ps => { ps with pulse := .gap }) zone).port .dispatch).pulse = .gap ∧
      ((atPort .dispatch (fun ps => { ps with pulse := .pulsing }) zone).port .dispatch).pulse = .pulsing ∧
      (zone.port .dispatch).pulse ≠ .gap ∧
      (reading.port .dispatch).reading = .head ∧
      (reading.port .dispatch).queue = .notice (state 6 0) :: ([.notice (state 7 0)] ++ .notice (state 6 1) :: []) ∧
      SameSubject (state 6 1) (state 6 0) ∧ ¬ SameSubject (state 7 0) (state 6 0) := by decide +kernel

/-- 300 vehicles do not fit an entry, two do: MORE is 1 and 0. -/
theorem test_vehicle_list_is_cut :
    (let more (n : Nat) : Option Byte :=
       let bs := (Entry.reply ⟨5, 20, .done, false, .vehicles (List.replicate n ⟨214, .active, some 5, false⟩) []⟩).bytes .own
       if bs.length ≤ 1024 then bs.reverse[2]? else none
     (more 2, more 300)) = (some 0, some 1) := by decide +kernel

theorem witness_PortSettingsAreReplaced :
    Roomy .traffic zone ∧
      (NoticeKind.all[NoticeKind.vehicleNew.code - 1]? = some .vehicleNew ∧ Port.traffic ∈ NoticeKind.vehicleNew.ports ∧
        NoticeKind.vehicleNew.maskable = true) ∧
      NoticeKind.all[43]? = none ∧ NoticeKind.trip.maskable = false := by decide +kernel

theorem witness_ReadStatusReportsAndClears : Roomy .traffic zone ∧ Roomy .dispatch zone ∧ Roomy .works zone := by decide +kernel

/-- The four cases of R188 to R190: masked; over an unread notice, and not over a head that is read; appended at 27 notices; lost
at 28. -/
theorem witness_NoticesArePlacedPortByPort :
    (NoticeKind.feederState ∈ [NoticeKind.feederState] ∧ (state 6 1).body.urgent = false) ∧
      (let ps := reading.port .dispatch
       ps.queue = [.notice (state 6 0), .notice (state 7 0)] ++ .notice (state 6 1) :: [] ∧ SameSubject (state 6 1) (state 6 2) ∧
         ∀ m ∈ [state 7 0], ¬ SameSubject m (state 6 2)) ∧
      (let q : List Entry := List.replicate 27 (.notice ⟨0, .restarted⟩)
       (q.filter Entry.isNotice).length < 28 ∧ q.length < 32) ∧
      let q : List Entry := List.replicate 28 (.notice ⟨0, .restarted⟩)
      ¬ ((q.filter Entry.isNotice).length < 28 ∧ q.length < 32) := by decide +kernel

/-! ### Measurement -/

/-- The walk of the example in state `m`. -/
def walking (m : SqMode) : State :=
  atBlocks (fun b => { b with clc := { b.clc with inFlight := none } }) (atSq (fun q => { q with mode := m }) (walk 1 5 zone))

/-- Each state of the sequencer, an empty list, a settle delay that runs and one that has run out, the link free and not. -/
theorem witness_ScanRequestsMoveTheSequencer :
    (∀ m ∈ [SqMode.stopped, .settle, .converting, .between, .paused],
      (walking m).mode = .run ∧ Roomy .dispatch (walking m) ∧ (walking m).blocks.sq.mode = m) ∧
      zone.blocks.sq.length = 0 ∧ 0 < (walking .stopped).blocks.sq.length ∧
      (walking .paused).blocks.sq.serving = false ∧
      (look (walking .paused).blocks.sq.slots (walking .paused).blocks.sq.next).isSome = true ∧
      (let s := at' 1002 (atSq (fun q => { q with settle := some ⟨1000, 2⟩ }) (walking .settle))
       s.blocks.sq.settle = some ⟨1000, 2⟩ ∧ 2 ≤ (s.time - 1000).toNat ∧ LinkFree s.blocks) ∧
      ¬ LinkFree (walk 1 5 zone).blocks := by decide +kernel

/-- A list that fits, bound to a known section and to an unknown one; one that runs past 48; PAUSED. -/
theorem witness_WriteScanWritesTheList :
    zone.mode = .run ∧ Roomy .dispatch zone ∧ zone.blocks.sq.mode = .stopped ∧
      (∀ a ∈ list, ScanFits (isCurrent zone.blocks a.channel) a ∧ (a.binding ≠ 255 → (zone.blocks.section? a.binding).isSome = true)) ∧
      (0 + list.length ≤ 48 ∧ list.length ≤ 8) ∧ ¬ 45 + list.length ≤ 48 ∧
      ScanFits (isCurrent zone.blocks 20) ⟨20, 0, 1, 2, 5400, 0, 200, 0, 7⟩ ∧ (zone.blocks.section? 7).isSome = false ∧
      (walking .paused).blocks.sq.mode = .paused ∧ (walking .between).blocks.sq.mode = .between := by
  and_intros <;> decide +kernel

/-- A section whose monitor stands CROSSED and is written INSIDE. -/
theorem witness_WriteScanWritesTheList_crossed :
    let q := (after (answer 20 5310) (walk 2 20 zone)).blocks.sq
    (look q.slots 2).map (fun x => (x.crossing, x.binding)) = some (some .low, some 5) := by decide +kernel

theorem witness_MeasurementRequestsServeTheQueue :
    zone.mode = .run ∧ Roomy .dispatch zone ∧ ¬ Roomy .dispatch (full .dispatch zone) ∧ (1 ≤ 8 ∧ 8 ≤ 64) ∧ 8 < 9 ∧ 64 < 65 := by
  decide +kernel

/-- Channel 9 belongs to F8 alone. -/
theorem owns8 (s : State) (x : Feeder) (h : s.blocks.feeder? 8 = some x) (hc : x.conn.currentCh = 9)
    (ho : ∀ g < 16, ∀ y, s.blocks.feeder? g = some y → y.conn.currentCh = 9 → g = 8) : OwnsCurrent s.blocks 8 x :=
  ⟨h, each_feeder (P := fun g y => y.conn.currentCh = x.conn.currentCh → g = 8) (by simpa [hc] using ho)⟩

theorem witness_CalibrateAppendsAnInsert :
    zone.mode = .run ∧ Roomy .dispatch zone ∧
      (∀ f x, zone.blocks.feeder? f = some x → x.conn.currentCh ≠ 20) ∧
      zone.blocks.feeder? 8 = some f8 ∧ f8.conn.currentCh = 9 ∧
      (∀ g y, zone.blocks.feeder? g = some y → y.conn.currentCh = 9 → g = 8) ∧
      ¬ (f8.state = .closing ∨ f8.state = .closed ∨ f8.state = .lineTest .test) ∧
      zone.blocks.sq.inserts = [] ∧ zone.blocks.sq.mode = .stopped ∧ LinkFree zone.blocks ∧
      f6.state = .closed ∧ f6.conn.currentCh = 3 ∧
      (let s := atSq (fun q => { q with inserts := List.replicate 4 ⟨.calibrate, 3, 8, []⟩ }) zone
       (∀ i ∈ s.blocks.sq.inserts, ¬ (i.kind = .calibrate ∧ i.who = 9)) ∧ 4 ≤ s.blocks.sq.inserts.length) := by
  and_intros <;> first | decide +kernel | exact each_feeder (by decide +kernel)

/-- The entry of channel 5 in the example's list. -/
def entry5 : ScanEntry := ⟨5, 2, true, .none, 0, 0, 0, false, none, none⟩

/-- The transaction of the walk on channel `ch`. -/
def onLine (ch : Nat) (o : ConversionOwner) : Conversion := requested 1000 ch o

theorem walks5 : Walking (walk 1 5 zone) (onLine 5 .walk) entry5 :=
  ⟨by decide +kernel, by decide +kernel, rfl, by decide +kernel, rfl, by decide, by decide +kernel⟩

/-- C5's answers 6580, VALID and not. -/
theorem answer5 : CorrectAnswer (withCheck [5, 25, 180, 1]) 5 6580 true ∧ CorrectAnswer (withCheck [5, 25, 180, 0]) 5 6580 false :=
  ⟨⟨by decide, by decide, 25, 180, 255, 45, by decide⟩, by decide, by decide, 25, 180, 255, 46, by decide⟩

/-- An answer that is short is no correct one. -/
theorem wrong5 : ¬ ∃ code valid, CorrectAnswer [5, 25] 5 code valid := by
  rintro ⟨code, valid, -, -, hi, lo, c1, c0, h, -⟩
  simp at h

/-- A conversion that began at least 2 ms ago may end by its expiry. -/
theorem expires {s : State} {ch : Nat} {o : ConversionOwner} (h : 2 ≤ (s.time - 1000).toNat) :
    ConversionEnds s (onLine ch o) .converterAnswerExpiry 0 false (s.blocks.clc.presence.setIfInBounds (ch / 8) .failed) :=
  .inr ⟨rfl, h, rfl, rfl, rfl⟩

/-- The list with C11 in its entry 1, the works queue emptied. -/
def liveList (s : State) : State :=
  atPort .works (fun ps => { ps with queue := [] })
    (atSq (fun q => { q with slots := amend q.slots 1 fun x => { x with channel := 11 } }) s)

theorem witness_ConversionsEndByAnswerOrExpiry :
    (zone.mode = .run ∧ zone.blocks.clc.inFlight = none ∧ (walk 1 5 zone).mode = .run ∧
        (walk 1 5 zone).blocks.clc.inFlight = some (onLine 5 .walk) ∧
        ((at' 1001 (walk 1 5 zone)).time - 1000).toNat < 2 ∧ 2 ≤ ((at' 1002 (walk 1 5 zone)).time - 1000).toNat) ∧
      (¬ ∃ code valid, CorrectAnswer [5, 25] 5 code valid) ∧ Walking (walk 1 5 zone) (onLine 5 .walk) entry5 ∧
      ConversionEnds (walk 1 5 zone) (onLine 5 .walk) (.converterAnswer ⟨false, withCheck [5, 25, 180, 1]⟩) 6580 true
        (presenceAfter (walk 1 5 zone).blocks 5 true) ∧
      Walking (at' 1002 (walk 1 5 zone)) (onLine 5 .walk) entry5 ∧
      ConversionEnds (at' 1002 (walk 1 5 zone)) (onLine 5 .walk) .converterAnswerExpiry 0 false
        ((at' 1002 (walk 1 5 zone)).blocks.clc.presence.setIfInBounds 0 .failed) :=
  ⟨by decide +kernel, wrong5, walks5, .inl ⟨_, rfl, answer5.1, rfl⟩,
    ⟨walks5.run, walks5.flight, walks5.owner, walks5.entry, walks5.channel, walks5.inRange, walks5.mode⟩,
    expires (by decide +kernel)⟩

/-- F8's line-voltage sample of 6580 in S6 ISOLATED, with its arming ARMED, below V_bf and DEAD. -/
theorem witness_ConversionsEndByAnswerOrExpiry_live :
    let s := walk 1 11 (after (.isolate .works 1 9 [6]) zone)
    (∃ x z, s.blocks.feeder? 8 = some x ∧ x.conn.lineCh = 11 ∧ x.liveArmed = true ∧ s.blocks.section? x.conn.sec = some z ∧
        z.state = .isolated ∧ x.conn.settings.vBf ≤ (sampleAt s.blocks 11 true 6580).value ∧
        (sampleAt s.blocks 11 true 499).value < x.conn.settings.vBf) ∧
      (sampleAt s.blocks 11 true 6580).cls = .normal ∧ (sampleAt s.blocks 11 true 499).cls = .normal ∧
      (∀ g y, s.blocks.feeder? g = some y → y.conn.currentCh ≠ 11 ∧ (y.conn.lineCh = 11 → g = 8)) ∧
      s6.state ≠ .isolated ∧ kinds .works (after (answer 11 6580) (liveList s)) = [.liveOnIsolated] := by
  and_intros
  · exact ⟨_, _, (Option.some_get (by decide +kernel)).symm, by decide +kernel, by decide +kernel,
      (Option.some_get (by decide +kernel)).symm, by decide +kernel⟩
  · decide +kernel
  · decide +kernel
  · exact each_feeder (by decide +kernel)
  · decide +kernel
  · decide +kernel

/-- The mode, the service and the conversion on the line. -/
def onConverters (s : State) : SqMode × Bool × Option (Nat × ConversionOwner) :=
  (s.blocks.sq.mode, s.blocks.sq.serving, s.blocks.clc.inFlight.map fun c => (c.channel, c.owner))

def calibration9 : Insert := ⟨.calibrate, 9, 8, []⟩

/-- C5's walk conversion ends over an empty queue and over a waiting calibration of C9, in a walk that goes on and one that stops. -/
theorem witness_ConversionsEndByAnswerOrExpiry_continues :
    let s (is : List Insert) (stop : Bool) := atSq (fun q => { q with inserts := is, stopPending := stop }) (walk 1 5 zone)
    Walking (s [calibration9] true) (onLine 5 .walk) entry5 ∧ (s [] false).blocks.clc.rest = none ∧
      onConverters (after (answer 5 6580) (s [] false)) = (.converting, false, some (20, .walk)) ∧
      onConverters (after (answer 3 410) (walk 0 3 zone)) = (.settle, false, none) ∧
      onConverters (after (answer 5 6580) (s [calibration9] false)) = (.between, true, some (9, .insert)) ∧
      onConverters (after (answer 5 6580) (s [] true)) = (.stopped, false, none) ∧
      onConverters (after (answer 5 6580) (s [calibration9] true)) = (.stopped, true, some (9, .insert)) := by
  refine ⟨⟨?_, ?_, rfl, ?_, rfl, by decide, ?_⟩, ?_⟩
  all_goals and_intros
  all_goals decide +kernel

/-- A conversion of a withdrawn insert on C5, SQ in `m` with its fields by `q`. -/
def discarding (m : SqMode) (q : Sq → Sq) : State :=
  atBlocks (fun b => { b with clc := { b.clc with inFlight := some (onLine 5 .discarded) } }) (atSq q (walking m))

/-- It ends in each state of SQ: with a settle delay that runs and one that is over, between entries, and with and without an
insert; and on a link that rests. -/
theorem witness_ConversionsEndByAnswerOrExpiry_discarded :
    (∀ m ∈ [SqMode.settle, .between, .stopped, .paused], (discarding m id).mode = .run ∧
        (discarding m id).blocks.clc.inFlight = some (onLine 5 .discarded) ∧ (discarding m id).blocks.clc.rest = none) ∧
      ConversionEnds (discarding .between id) (onLine 5 .discarded) (.converterAnswer ⟨false, withCheck [5, 25, 180, 1]⟩) 6580 true
        (presenceAfter (discarding .between id).blocks 5 true) ∧
      onConverters (after (answer 5 6580) (discarding .between id)) = (.settle, false, none) ∧
      onConverters (after (answer 5 6580) (discarding .settle id)) = (.converting, false, some (5, .walk)) ∧
      onConverters (after (answer 5 6580) (discarding .settle fun q => { q with settle := some ⟨1000, 2⟩ })) = (.settle, false, none) ∧
      onConverters (after (answer 5 6580) (discarding .stopped fun q => { q with inserts := [calibration9] })) =
        (.stopped, true, some (9, .insert)) ∧
      onConverters (after (answer 5 6580) (discarding .between fun q => { q with inserts := [calibration9], serving := true })) =
        (.between, true, some (9, .insert)) ∧
      onConverters (after (answer 5 6580) (discarding .paused id)) = (.paused, false, none) ∧
      onConverters (after (answer 5 6580) (atBlocks (fun b => { b with clc := { b.clc with rest := some ⟨1000, 2⟩ } })
        (discarding .between id))) = (.between, false, none) :=
  ⟨by decide +kernel, .inl ⟨_, rfl, answer5.1, rfl⟩, by and_intros <;> decide +kernel⟩

/-- The insert `i` in service in STOPPED, its conversion on channel `ch` on the line, F8 standing as `x` with its breaker open. -/
def served (i : Insert) (ch : Nat) (x : Feeder) : State :=
  opened 8 (withFeeder 8 x (atBlocks (fun b =>
    { b with
      sq := { b.sq with inserts := [i], serving := true }
      clc := { b.clc with inFlight := some (onLine ch .insert) } }) zone))

theorem in_service (i : Insert) (ch : Nat) (x : Feeder) (h : ch < 48) : InService (served i ch x) (onLine ch .insert) i [] := by
  have hb : zone.mode = .run ∧ zone.blocks.clc.rest = none ∧ zone.blocks.sq.mode = .stopped := by decide +kernel
  exact ⟨hb.1, rfl, rfl, h, rfl, hb.2.1, rfl, Or.inr (Or.inl hb.2.2)⟩

/-- The same 2 ms later, when the conversion may expire. -/
theorem late_service (i : Insert) (ch : Nat) (x : Feeder) (h : ch < 48) :
    InService (at' 1002 (served i ch x)) (onLine ch .insert) i [] :=
  let h := in_service i ch x h
  ⟨h.run, h.flight, h.owner, h.channel, h.inserts, h.link, h.serving, h.mode⟩

/-- A result of code `v` that was VALID, not saturated and not live. -/
def kept (v : Int) : KeptResult := ⟨v, true, ⟨.normal, v⟩, false⟩

def answer9 (v : Int) : List Byte := withCheck (9 :: wordBytes v ++ [1])

theorem witness_InsertResultsAreKept :
    let i : Insert := ⟨.test, 8, 2, [kept 6600, kept 120]⟩
    let x := { f8 with state := .lineTest .test }
    InService (served i 10 x) (onLine 10 .insert) i [] ∧
      i.results.length + 1 < (if i.kind = .test then 2 * i.size else i.size) ∧
      CorrectAnswer (withCheck [10, 25, 200, 1]) 10 6600 true ∧ (served i 10 x).blocks.feeder? 8 = some x ∧
      (let s := at' 1002 (served i 10 x)
       InService s (onLine 10 .insert) i [] ∧
         ConversionEnds s (onLine 10 .insert) .converterAnswerExpiry 0 false (s.blocks.clc.presence.setIfInBounds 1 .failed)) :=
  ⟨in_service _ _ _ (by decide), by decide, ⟨by decide, by decide, 25, 200, 255, 20, by decide⟩, by decide +kernel,
    late_service _ _ _ (by decide), expires (by decide +kernel)⟩

/-- A calibration of a current channel, whose feeder's state is asked for. -/
theorem witness_InsertResultsAreKept_calibrate :
    let i : Insert := ⟨.calibrate, 9, 8, [kept 3]⟩
    InService (served i 9 f8) (onLine 9 .insert) i [] ∧ i.results.length + 1 < i.size ∧
      CorrectAnswer (answer9 4) 9 4 true ∧ OwnsCurrent (served i 9 f8).blocks 8 f8 ∧ f8.conn.currentCh = 9 := by
  refine ⟨in_service _ _ _ (by decide), by decide, ⟨by decide, by decide, 0, 4, 255, 242, by decide⟩, ?_, by decide +kernel⟩
  exact owns8 _ _ (by decide +kernel) (by decide +kernel) (by decide +kernel)

/-- The example's calibration of C9, its eighth answer 4; and one that saturates. -/
theorem witness_CalibrationSetsTheOffset :
    let i : Insert := ⟨.calibrate, 9, 8, [3, 4, 2, 5, 3, 4, 3].map kept⟩
    let s := served i 9 f8
    (i.kind = .calibrate ∧ i.who = 9 ∧ i.size = 8 ∧ i.results.length = 7 ∧ f8.conn.currentCh = 9 ∧ Unentangled 8 s ∧
        (∀ r ∈ i.results, r.valid = true ∧ r.live = false ∧ r.code ≠ 32767 ∧ r.code ≠ -32768) ∧ f8.state = .opened) ∧
      InService s (onLine 9 .insert) i [] ∧ OwnsCurrent s.blocks 8 f8 ∧ CorrectAnswer (answer9 4) 9 4 true ∧
      CorrectAnswer (answer9 32767) 9 32767 true ∧ InService (at' 1002 s) (onLine 9 .insert) i [] ∧
      ConversionEnds (at' 1002 s) (onLine 9 .insert) .converterAnswerExpiry 0 false
        ((at' 1002 s).blocks.clc.presence.setIfInBounds 1 .failed) :=
  ⟨by decide +kernel, in_service _ _ _ (by decide), owns8 _ _ (by decide +kernel) (by decide +kernel) (by decide +kernel),
    ⟨by decide, by decide, 0, 4, 255, 242, by decide⟩, ⟨by decide, by decide, 127, 255, 254, 120, by decide⟩,
    late_service _ _ _ (by decide), expires (by decide +kernel)⟩

theorem owns6 (s : State) (x : Feeder) (h : s.blocks.feeder? 6 = some x) (hc : x.conn.currentCh = 3)
    (ho : ∀ g < 16, ∀ y, s.blocks.feeder? g = some y → y.conn.currentCh = 3 → g = 6) : OwnsCurrent s.blocks 6 x :=
  ⟨h, each_feeder (P := fun g y => y.conn.currentCh = x.conn.currentCh → g = 6) (by simpa [hc] using ho)⟩

/-- A current channel and a voltage channel; the codes at the ends of each line. -/
theorem witness_SamplesAreClassifiedByTheTable :
    OwnsCurrent zone.blocks 6 f6 ∧ f6.conn.currentCh = 3 ∧ f6.pu.offset = 0 ∧
      (∀ f x, zone.blocks.feeder? f = some x → x.conn.currentCh ≠ 5) ∧
      ((12000 : Int) < 12001 - 0 ∧ (-12001 : Int) - 0 < -12000) :=
  ⟨owns6 _ _ (by decide +kernel) (by decide +kernel) (by decide +kernel), by decide +kernel, by decide +kernel,
    each_feeder (by decide +kernel), by decide⟩

/-- Entries of each mode, INSIDE and CROSSED. -/
theorem witness_WindowMonitorsCrossAndReturn :
    let en (m : CompareMode) (d : Option CrossDir) : ScanEntry := ⟨20, 0, true, m, 5400, 6000, 200, false, none, d⟩
    (en .above (some .high)).mode = .above ∧ (en .above (some .high)).crossing = some .high ∧ (en .below none).crossing = none ∧
      (en .outside none).limit1 ≤ (en .outside none).limit2 ∧ monitorStep (en .above none) 5401 = some .high ∧
      monitorStep (en .above none) 5400 = none ∧ monitorStep (en .below none) 5399 = some .low ∧
      monitorStep (en .outside (some .low)) 5600 = none ∧ monitorStep (en .outside (some .low)) 6500 = some .low := by decide

/-- S5's bound monitor, BELOW 5400 with hysteresis 200, in limit state `d`. -/
def entry20 (d : Option CrossDir) : ScanEntry := ⟨20, 0, true, .below, 5400, 0, 200, false, some 5, d⟩

/-- The walk on it, S5 standing in `st` with its LOW_VOLTAGE as the limit state. -/
def monitored (st : SectionState) (d : Option CrossDir) : State :=
  atSection 5 (fun z => { z with state := st, lowVoltage := d.isSome })
    (atSq (fun q => { q with slots := amend q.slots 2 fun x => { x with crossing := d } }) (walk 2 20 zone))

theorem answer20 : CorrectAnswer (withCheck [20, 20, 190, 1]) 20 5310 true ∧ CorrectAnswer (withCheck [20, 21, 224, 1]) 20 5600 true :=
  ⟨⟨by decide, by decide, 20, 190, 255, 25, by decide⟩, by decide, by decide, 21, 224, 254, 246, by decide⟩

/-- A walk sample of the monitor INSIDE and CROSSED, its section ENERGISED and DEAD. -/
theorem witness_WindowMonitorsCrossAndReturn_bound :
    (∀ st ∈ [SectionState.energised, .dead], ∀ d ∈ [none, some .low],
      Walking (monitored st d) (onLine 20 .walk) (entry20 d) ∧
        ((monitored st d).blocks.section? 5).map (fun z => (z.state, z.lowVoltage)) = some (st, d.isSome)) ∧
      ConversionEnds (monitored .energised none) (onLine 20 .walk) (.converterAnswer ⟨false, withCheck [20, 20, 190, 1]⟩) 5310 true
        (presenceAfter (monitored .energised none).blocks 20 true) ∧
      (∀ g y, (monitored .energised none).blocks.feeder? g = some y → y.conn.currentCh ≠ 20) ∧
      (let t := after (answer 20 5310) (monitored .energised none)
       kinds .dispatch t = [.limitCrossed, .sectionState] ∧ (look t.blocks.sq.slots 2).map (·.crossing) = some (some .low) ∧
         (t.blocks.section? 5).map (·.lowVoltage) = some true) ∧
      (let t := after (answer 20 5600) (monitored .energised (some .low))
       kinds .dispatch t = [.limitCleared, .sectionState] ∧ (look t.blocks.sq.slots 2).map (·.crossing) = some none ∧
         (t.blocks.section? 5).map (·.lowVoltage) = some false) ∧
      (let t := after (answer 20 5310) (monitored .dead none)
       kinds .dispatch t = [] ∧ (look t.blocks.sq.slots 2).map (·.crossing) = some none) := by
  refine ⟨fun st hs d hd => ?_, .inl ⟨_, rfl, answer20.1, rfl⟩, each_feeder (by decide +kernel), by decide +kernel, by decide +kernel,
    by decide +kernel⟩
  have h : (monitored st d).mode = .run ∧ (monitored st d).blocks.clc.inFlight = some (onLine 20 .walk) ∧
      look (monitored st d).blocks.sq.slots (monitored st d).blocks.sq.next = some (entry20 d) ∧
      (monitored st d).blocks.sq.mode = .converting ∧
      ((monitored st d).blocks.section? 5).map (fun z => (z.state, z.lowVoltage)) = some (st, d.isSome) := by
    revert st d
    decide +kernel
  exact ⟨⟨h.1, h.2.1, rfl, h.2.2.1, rfl, by decide, h.2.2.2.1⟩, h.2.2.2.2⟩

/-- The unbound entry on F4's current channel, ABOVE 2500: 2600 A crosses it, and a sample that is not VALID does not. -/
theorem witness_WindowMonitorsCrossAndReturn_unbound :
    let en : ScanEntry := ⟨0, 0, true, .above, 2500, 0, 300, false, none, none⟩
    let s := walk 3 0 zone
    Walking s (onLine 0 .walk) en ∧ CorrectAnswer (withCheck [0, 10, 40, 1]) 0 2600 true ∧
      CorrectAnswer (withCheck [0, 10, 40, 0]) 0 2600 false ∧ (sampleAt s.blocks 0 false 2600).cls = .invalid ∧
      (look (after (answer 0 2600) s).blocks.sq.slots 3).map (·.crossing) = some (some .high) :=
  ⟨⟨by decide +kernel, by decide +kernel, rfl, by decide +kernel, rfl, by decide, by decide +kernel⟩,
    ⟨by decide, by decide, 10, 40, 255, 205, by decide⟩, ⟨by decide, by decide, 10, 40, 255, 206, by decide⟩, by decide +kernel,
    by decide +kernel⟩

/-! ### Protection and feeders -/

/-- The walk on C3, F6's current channel, with F6 standing as `x`. -/
def sampled (x : Feeder) : State := withFeeder 6 x (walk 0 3 zone)

/-- The entry of channel 3 in the example's list. -/
def entry3 : ScanEntry := ⟨3, 0, false, .none, 0, 0, 0, false, none, none⟩

def answer3 (v : Int) : List Byte := withCheck (3 :: wordBytes v ++ [1])

theorem walks3 (x : Feeder) : Walking (sampled x) (onLine 3 .walk) entry3 := by
  have h : (walk 0 3 zone).mode = .run ∧ (walk 0 3 zone).blocks.clc.inFlight = some (onLine 3 .walk) ∧
      look (walk 0 3 zone).blocks.sq.slots (walk 0 3 zone).blocks.sq.next = some entry3 ∧
      (walk 0 3 zone).blocks.sq.mode = .converting := by decide +kernel
  exact ⟨h.1, h.2.1, rfl, h.2.2.1, rfl, by decide, h.2.2.2⟩

/-- F6 armed since 997, its ring full enough for W. -/
def armed : Feeder := { f6 with pu := { f6.pu with step := some ⟨800, 1550, 997⟩ } }

/-- F6 disarmed, with four entries in its ring. -/
def disarmed : Feeder :=
  { f6 with pu := { f6.pu with ring := [⟨800, 996⟩, ⟨820, 997⟩, ⟨810, 998⟩, ⟨830, 999⟩] } }

theorem correct3 : CorrectAnswer (answer3 2680) 3 2680 true ∧ CorrectAnswer (answer3 6000) 3 6000 true :=
  ⟨⟨by decide, by decide, 10, 120, 255, 122, by decide⟩, by decide, by decide, 23, 112, 255, 117, by decide⟩

theorem partner6 : zone.env.partner 6 = some 7 ∧ zone.env.aux 6 = .closed ∧ zone.env.aux 7 = .closed := by decide +kernel

theorem witness_ThetaMovesOnlyOnCurrentSamples :
    (∃ t, exec (.openFeeder .dispatch 1 4) zone = .next t) ∧ zone.blocks.feeder? 4 = some f4 ∧
      (sampled f6).blocks.clc.inFlight = some (onLine 3 .walk) ∧ (sampled f6).blocks.feeder? 6 = some f6 ∧
      (∃ t, exec .converterAnswerExpiry (sampled f6) = .next t) ∧
      (∃ t, exec (.converterAnswer ⟨false, answer3 2680⟩) (sampled f6) = .next t) ∧ f4.conn.currentCh ≠ 3 ∧
      (sampled f6).blocks.feeder? 4 = some f4 ∧
      Walking (sampled f6) (onLine 3 .walk) entry3 ∧ OwnsCurrent (sampled f6).blocks 6 f6 ∧ f6.conn.currentCh = 3 ∧
      CorrectAnswer (answer3 2680) 3 2680 true :=
  by
  refine ⟨next_of_runs _ _ ?_, ?_, ?_, ?_, next_of_runs _ _ ?_, next_of_runs _ _ ?_, ?_, ?_, walks3 _,
    owns6 _ _ ?_ ?_ ?_, ?_, correct3.1⟩ <;> decide +kernel

/-- F6 in COOLING, tripped THERMAL, at θ. -/
def cooling (theta : Int) (r : RecloseRole) : Feeder :=
  { f6 with state := .deadTime .cooling, cause := some .thermal, role := r, pu := { f6.pu with theta := theta } }

/-- At 0 A a leader in COOLING falls below θ_alarm and a hotter one does not, and a follower waits for its partner; at 12000 A a
feeder rises through θ_alarm. -/
theorem witness_ThetaMovesOnlyOnCurrentSamples_alarm :
    (∀ x ∈ [cooling 30001 .leader, cooling 30001 .follower, cooling 35000 .leader, cooling 29999 .leader],
      Walking (sampled x) (onLine 3 .walk) entry3 ∧ OwnsCurrent (sampled x).blocks 6 x ∧ x.conn.currentCh = 3) ∧
      CorrectAnswer (answer3 0) 3 0 true ∧ CorrectAnswer (answer3 12000) 3 12000 true ∧
      stateOf 6 (after (answer 3 0) (sampled (cooling 30001 .leader))) = some (.lineTest .precheck) ∧
      stateOf 6 (after (answer 3 0) (sampled (cooling 35000 .leader))) = some (.deadTime .cooling) ∧
      stateOf 6 (after (answer 3 0) (atFeeder 7 (fun y => { y with state := .lockout }) (sampled (cooling 30001 .follower)))) =
        some (.deadTime .awaitLeader) ∧
      (let t := after (answer 3 12000) (sampled (cooling 29999 .leader))
       kinds .dispatch t = [.thermalAlarm] ∧
         (t.blocks.feeder? 6).map (fun y => (y.pu.theta, y.pu.alarmArmed)) = some (30079, false)) := by
  refine ⟨fun x hx => ⟨walks3 x, ?_⟩, ⟨by decide, by decide, 0, 0, 255, 252, by decide⟩,
    ⟨by decide, by decide, 46, 224, 254, 238, by decide⟩, by decide +kernel, by decide +kernel, by decide +kernel, by decide +kernel⟩
  have hc : x.conn.currentCh = 3 ∧ (sampled x).blocks.feeder? 6 = some x ∧
      ∀ g < 16, ∀ y, (sampled x).blocks.feeder? g = some y → y.conn.currentCh = 3 → g = 6 := by
    revert x
    decide +kernel
  exact ⟨owns6 _ _ hc.2.1 hc.1 hc.2.2, hc.1⟩

/-- F6 CLOSED with its step armed (2680 A meets STEP, 6000 A INST) and disarmed (2680 A arms it), and F6 in CLOSING with its contact
CLOSED; its partner F7 is CLOSED. -/
theorem witness_CurrentSamplesTripByTheFirstCriterion :
    (∀ x ∈ [armed, disarmed, { f6 with state := .closing }],
      Walking (sampled x) (onLine 3 .walk) entry3 ∧ OwnsCurrent (sampled x).blocks 6 x ∧ x.conn.currentCh = 3 ∧
        x.Live ∧ (sampled x).env.aux 6 = .closed ∧ (sampled x).env.partner 6 ≠ some 6 ∧ WaitersWait (sampled x)) ∧
      CorrectAnswer (answer3 2680) 3 2680 true ∧ CorrectAnswer (answer3 6000) 3 6000 true ∧
      (sampleAt (sampled armed).blocks 3 true 2680 = ⟨.normal, 2680⟩ ∧
        (disarmed.pu.ring ++ [(⟨2680, 1000⟩ : RingEntry)]).reverse[4]? = some ⟨800, 996⟩ ∧
        (sampled armed).blocks.feeder? 7 = zone.blocks.feeder? 7 ∧ stateOf 7 zone = some .closed) ∧
      ∃ a, armed.pu.step = some a ∧ a.holdLevel ≤ 2680 ∧ 3 ≤ ((1000 : Time) - a.armTime).toNat := by
  refine ⟨?_, correct3.1, correct3.2, by decide +kernel, ⟨800, 1550, 997⟩, by decide +kernel⟩
  intro x hx
  have hc : x.conn.currentCh = 3 ∧ x.Live ∧ (sampled x).blocks.feeder? 6 = some x ∧
      ∀ g < 16, ∀ y, (sampled x).blocks.feeder? g = some y → y.conn.currentCh = 3 → g = 6 := by
    revert x
    decide +kernel
  have hn : (sampled x).env.partner 6 = some 7 := partner6.1
  have hw : (walk 0 3 zone).blocks.sq.waiting = [] := by decide +kernel
  exact ⟨walks3 x, owns6 _ _ hc.2.2.1 hc.1 hc.2.2.2, hc.1, hc.2.1, partner6.2.1, by simp [hn], none_wait hw⟩

/-- F6 and F7 in CLOSING with their contacts OPEN, where 6000 A trips both at once; F7's trip ends in a dead time. -/
theorem witness_CurrentSamplesTripByTheFirstCriterion_open :
    let x : Feeder := { f6 with state := .closing }
    let s := opened 7 (opened 6 (atFeeder 7 (fun z => { z with state := .closing }) (sampled x)))
    Walking s (onLine 3 .walk) entry3 ∧ OwnsCurrent s.blocks 6 x ∧
      (x.conn.currentCh = 3 ∧ x.Live ∧ s.env.aux 6 = .opened ∧ s.env.aux 7 = .opened ∧ s.env.partner 6 = some 7 ∧
        s.blocks.sq.waiting = [] ∧ stateOf 7 s = some .closing) ∧
      (let t := after (answer 3 6000) s
       (t.blocks.feeder? 6).map (fun y => (y.state, y.cause, y.closeOntoFault)) =
           some (.lockout, some .closeOntoFault, false) ∧
         (t.blocks.feeder? 7).map (fun y => (y.state, y.cause)) = some (.lockout, some .partner)) := by
  have h := walks3 { f6 with state := .closing }
  refine ⟨⟨h.run, h.flight, h.owner, h.entry, h.channel, h.inRange, h.mode⟩, owns6 _ _ ?_ ?_ ?_, ?_⟩ <;> decide +kernel

/-- A stale timer due and not, of policies HOLD and TRIP, CLOSED, CLOSING with its contact OPEN, and neither. -/
theorem witness_StaleTimersDegrade :
    let x (p : Policy) : Feeder :=
      { f6 with conn := { f6.conn with settings := { f6.conn.settings with policy := p } }, pu := { f6.pu with stale := some ⟨980, 20⟩ } }
    let s (y : Feeder) := withFeeder 6 y zone
    (∀ y ∈ [x .hold, x .trip, { x .trip with state := .closing }, { x .trip with state := .lockout }],
      (s y).mode = .run ∧ (s y).blocks.feeder? 6 = some y ∧ y.pu.stale = some ⟨980, 20⟩ ∧ (s y).env.partner 6 = some 7 ∧
        (s y).blocks.sq.waiting = []) ∧
      (x .trip).Live ∧ 20 ≤ (zone.time - 980).toNat ∧ ((at' 999 zone).time - 980).toNat < 20 ∧
      (let t := after (.staleTimerExpiry 6) (opened 6 (s { x .trip with state := .closing }))
       (t.blocks.feeder? 6).map (fun y => (y.state, y.cause)) = some (.lockout, some .closeOntoFault) ∧
         stateOf 7 t = some .tripping) := by
  decide +kernel

/-- F6 with an invalid run of 2 under the policy `p`. -/
def failing (p : Policy) (st : FeederState) : Feeder :=
  { f6 with
    conn := { f6.conn with settings := { f6.conn.settings with policy := p } }, state := st
    pu := { f6.pu with invalidRun := 2 } }

/-- A third INVALID sample, of an answer that is not VALID and of the expiry: CLOSED with HOLD and TRIP, CLOSING with its contact
OPEN, and LOCKOUT. -/
theorem witness_StaleTimersDegrade_invalid :
    (∀ x ∈ [failing .hold .closed, failing .trip .closed, failing .trip .closing, failing .trip .lockout],
      Walking (sampled x) (onLine 3 .walk) entry3 ∧ OwnsCurrent (sampled x).blocks 6 x ∧ x.conn.currentCh = 3 ∧
        (sampleAt (sampled x).blocks 3 false 0).cls = .invalid ∧ (sampled x).env.partner 6 = some 7 ∧ WaitersWait (sampled x)) ∧
      ConversionEnds (sampled f6) (onLine 3 .walk) (.converterAnswer ⟨false, withCheck [3, 0, 0, 0]⟩) 0 false
        (presenceAfter (sampled f6).blocks 3 false) ∧
      ConversionEnds (at' 1002 (sampled f6)) (onLine 3 .walk) .converterAnswerExpiry 0 false
        ((at' 1002 (sampled f6)).blocks.clc.presence.setIfInBounds 0 .failed) ∧
      (let c : Instr := .converterAnswer ⟨false, withCheck [3, 0, 0, 0]⟩
       kinds .dispatch (after c (sampled (failing .hold .closed))) = [.protectionDegraded] ∧
         stateOf 6 (after c (sampled (failing .trip .closed))) = some .tripping ∧
         stateOf 7 (after c (sampled (failing .trip .closed))) = some .tripping ∧
         stateOf 6 (after c (opened 6 (sampled (failing .trip .closing)))) = some .lockout ∧
         (after c (sampled (failing .trip .lockout))).blocks.feeder? 6 =
           some { failing .trip .lockout with pu := { f6.pu with invalidRun := 3 } }) := by
  refine ⟨fun x hx => ?_, .inl ⟨_, rfl, ⟨by decide, by decide, 0, 0, 255, 253, by decide⟩, rfl⟩, expires (by decide +kernel),
    by decide +kernel⟩
  have hc : x.conn.currentCh = 3 ∧ (sampled x).blocks.feeder? 6 = some x ∧
      (∀ g < 16, ∀ y, (sampled x).blocks.feeder? g = some y → y.conn.currentCh = 3 → g = 6) ∧
      (sampleAt (sampled x).blocks 3 false 0).cls = .invalid := by
    revert x
    decide +kernel
  have hw : (walk 0 3 zone).blocks.sq.waiting = [] := by decide +kernel
  exact ⟨walks3 x, owns6 _ _ hc.2.1 hc.1 hc.2.2.1, hc.1, hc.2.2.2, partner6.1, none_wait hw⟩

theorem section8 : zone.blocks.section? f8.conn.sec = some s6 ∧ zone.env.partner 8 = none := by decide +kernel

/-- F8's precheck with its last conversion on C11, as leader and follower, at two BACKFED results and fewer. -/
theorem witness_PrechecksMoveTheFeeder :
    let i : Insert := ⟨.precheck, 8, 2, [kept 35]⟩
    (∀ x ∈ [{ f8 with state := .lineTest .precheck, role := .leader }, { f8 with state := .lineTest .precheck, role := .leader, backfed := 2 },
        { f8 with state := .lineTest .precheck, role := .follower }],
      InService (served i 11 x) (onLine 11 .insert) i [] ∧ (served i 11 x).blocks.feeder? 8 = some x ∧ x.state = .lineTest .precheck ∧
        Unentangled 8 (served i 11 x) ∧ (served i 11 x).env.aux 8 = .opened ∧
        (served i 11 x).blocks.section? x.conn.sec = some s6) ∧
      ConversionEnds (at' 1002 (served i 11 f8)) (onLine 11 .insert) .converterAnswerExpiry 0 false
        ((at' 1002 (served i 11 f8)).blocks.clc.presence.setIfInBounds 1 .failed) ∧
      i.kind = .precheck ∧ i.results.length + 1 = i.size ∧ CorrectAnswer (withCheck [11, 0, 28, 1]) 11 28 true ∧
      CorrectAnswer (withCheck [11, 25, 180, 1]) 11 6580 true ∧ CorrectAnswer (withCheck [11, 0, 28, 0]) 11 28 false := by
  refine ⟨fun x hx => ⟨in_service _ _ _ (by decide), ?_⟩, expires (by decide +kernel), rfl, rfl, ⟨by decide, by decide, 0, 28, 255, 216, by decide⟩,
    ⟨by decide, by decide, 25, 180, 255, 39, by decide⟩, by decide, by decide, 0, 28, 255, 217, by decide⟩
  revert x
  decide +kernel

/-- F8's test with its last conversion on C11: the pairs of the example give NORMAL 370; 40 on the line is a SHORT, 6600 OPEN. -/
theorem witness_TestsMoveTheFeeder :
    let i : Insert := ⟨.test, 8, 2, [kept 6601, kept 121, kept 6600]⟩
    let x : Feeder := { f8 with state := .lineTest .test }
    let s := served i 11 x
    InService (at' 1002 s) (onLine 11 .insert) i [] ∧
      ConversionEnds (at' 1002 s) (onLine 11 .insert) .converterAnswerExpiry 0 false
        ((at' 1002 s).blocks.clc.presence.setIfInBounds 1 .failed) ∧
    InService s (onLine 11 .insert) i [] ∧ s.blocks.feeder? 8 = some x ∧ Unentangled 8 s ∧ s.env.aux 8 = .opened ∧
      s.blocks.section? x.conn.sec = some s6 ∧ i.results.length + 1 = 2 * i.size ∧ CorrectAnswer (withCheck [11, 0, 119, 1]) 11 119 true ∧
      i.results.map (·.sample) ++ [sampleAt s.blocks 11 true 119] =
        [((⟨.normal, 6601⟩ : Sample), (⟨.normal, 121⟩ : Sample)), (⟨.normal, 6600⟩, ⟨.normal, 119⟩)].flatMap (fun p => [p.1, p.2]) := by
  refine ⟨late_service _ _ _ (by decide), expires (by decide +kernel), in_service _ _ _ (by decide), ?_, ?_, ?_, ?_, ?_,
    ⟨by decide, by decide, 0, 119, 255, 125, by decide⟩, ?_⟩ <;> decide +kernel

/-- F8 alone in S6: TRIPPING with each end of R70's table, CLOSED for an external opening, OPEN. -/
theorem witness_OpenReportsEndTrips :
    let closed8 (x : Feeder) : State :=
      let s := withFeeder 8 x zone
      { s with pins := { s.pins with aux := s.pins.aux.setIfInBounds 8 .closed } }
    (∀ x ∈ [{ f8 with state := .closed }, { f8 with state := .tripping, cause := some .command },
        { f8 with state := .tripping, cause := some .permit }, { f8 with state := .tripping, cause := some .step, closeOntoFault := true },
        { f8 with state := .tripping, cause := some .partner }, { f8 with state := .tripping, cause := some .step }, f8],
      (closed8 x).mode = .run ∧ (closed8 x).blocks.feeder? 8 = some x ∧ (closed8 x).blocks.section? x.conn.sec = some s6 ∧
        (closed8 x).env.aux 8 = .closed ∧ Unentangled 8 (closed8 x)) ∧
      f8.state = .opened ∧ zone.env.aux 8 = .opened := by decide +kernel

/-- F7 as a follower in `st`. -/
def following (st : FeederState) (c : Cause) : State → State :=
  atFeeder 7 fun x => { x with state := st, cause := some c, role := .follower }

/-- F6's trip that ends in LOCKOUT, with F7 its follower in each state of R81's table; P2 MOVING in S5, which F6 alone feeds. -/
theorem witness_OpenReportsEndTrips_partner :
    let s (st : FeederState) (c : Cause) := opened 7 (following st c (drives .moving (trips 6 .degraded 900 idle)))
    (∀ st ∈ [FeederState.deadTime .awaitLeader, .lineTest .test, .waitClear, .tripping, .closing, .lockout],
      let x := s st .intertrip
      (x.blocks.feeder? 6).map (fun y => (y.state, y.cause, y.conn.sec)) = some (.tripping, some .degraded, 5) ∧
        x.env.aux 6 = .closed ∧ Unentangled 6 x ∧ x.env.partner 6 = some 7 ∧
        (x.blocks.feeder? 7).map (fun y => (y.role, y.state)) = some (.follower, st) ∧ x.env.aux 7 = .opened) ∧
      RunAgrees (s .waitClear .intertrip) ∧ PermitsAgree (s .waitClear .intertrip) ∧
      (s5.permits = 0 ∧ s5.state = .energised ∧ (s .waitClear .intertrip).blocks.section? 5 = some s5) ∧
      (let t := after (.contactReportOpen 6) (s .waitClear .intertrip)
       (t.blocks.feeder? 7).map (fun y => (y.state, y.cause)) = some (.lockout, some .partner) ∧
         (t.blocks.section? 5).map (·.state) = some .dead ∧
         (t.blocks.point? 2).map (fun y => (y.lastResult, y.drive)) = some (some .powerLost, .waitPower)) := by
  refine ⟨by decide +kernel, by apply agrees <;> decide +kernel, ?_, by decide +kernel, by decide +kernel⟩
  exact ⟨by decide +kernel, by decide +kernel, fun h => absurd h (by decide +kernel), each_section (by decide +kernel)⟩

/-- A permit of a covered section is decided again: F6's trip for 701 ends, then F7's. -/
theorem witness_OpenReportsEndTrips_permits :
    PermitsAgree permitted ∧ WaitersWait permitted ∧ (permitted.blocks.permits.map fun p => (p.number, p.state)) = [(701, .pending)] ∧
      ((after (.contactReportOpen 7) (after (.contactReportOpen 6) permitted)).blocks.permits.map fun p => p.state) =
        [.granted] := by
  refine ⟨⟨?_, ?_, fun h => absurd h (by decide +kernel), each_section (by decide +kernel)⟩, none_wait ?_, ?_⟩ <;>
    decide +kernel

/-- SEC_DEAD takes the place of S5's SEC_LIVE; a full queue loses it, with TX_OVERFLOW where the flag was clear. -/
theorem witness_OpenReportsEndTrips_broadcast :
    let s (q : List TxTelegram) (lost : Bool) := atRadio (fun r => { r with txAck := true, txQueue := q, txOverflow := lost })
      (opened 7 (following .waitClear .intertrip (trips 6 .degraded 900 idle)))
    let acks := List.replicate 8 (TxTelegram.fltAck 520 .leakage)
    let t (q : List TxTelegram) (lost : Bool) := after (.contactReportOpen 6) (s q lost)
    (s [] false).blocks.sq.waiting = [] ∧ (t [.ptBlock 2 12, .secLive 5] false).blocks.rlc.txQueue = [.ptBlock 2 12, .secDead 5 .dead] ∧
      (t [.secLive 4] false).blocks.rlc.txQueue = [.secLive 4, .secDead 5 .dead] ∧
      ((t acks false).blocks.rlc.txQueue, (t acks false).blocks.rlc.txOverflow) = (acks, true) ∧
      kinds .traffic (t acks false) = [.sectionState, .txOverflow] ∧ kinds .traffic (t acks true) = [.sectionState] := by
  decide +kernel

/-- F8 with its contact open in each state that a CLOSED report meets. -/
theorem witness_ClosedReportsEndCloses :
    (∀ st ∈ [FeederState.closed, .tripping, .breakerFail, .closing, .held, .opened, .lockout, .waitClear, .deadTime .timing, .lineTest .test],
      let x := { f8 with state := st }
      let s := withFeeder 8 x zone
      s.mode = .run ∧ s.blocks.feeder? 8 = some x ∧ s.env.aux 8 = .opened ∧ s.env.partner 8 ≠ some 8) ∧
      ({ f8 with openPending := true } : Feeder).openPending = true ∧
      (zone.env.aux 6 = .closed ∧ (after (.contactReportClosed 6) zone).blocks = zone.blocks) := by decide +kernel

/-- F8 is closed from outside while its TEST is in service: the test is withdrawn and its conversion runs on. -/
theorem witness_ClosedReportsEndCloses_withdraws :
    let i : Insert := ⟨.test, 8, 2, [kept 6600]⟩
    let s := served i 11 { f8 with state := .lineTest .test }
    let t := after (.contactReportClosed 8) s
    (s.mode = .run ∧ s.env.aux 8 = .opened ∧ s.env.partner 8 ≠ some 8 ∧ s.blocks.sq.waiting = [] ∧ s.blocks.sq.inserts = [i] ∧
        s.blocks.sq.serving = true ∧ s.blocks.clc.inFlight = some (onLine 11 .insert)) ∧
      t.blocks.sq.inserts = [] ∧ t.blocks.clc.inFlight = some (onLine 11 .discarded) ∧ stateOf 8 t = some .closed := by decide +kernel

/-- F6 closes with F7 its follower in AWAIT_LEADER, and S5 is ENERGISED. -/
theorem witness_ClosedReportsEndCloses_partner :
    let x : Feeder := { f6 with state := .closing, role := .leader, closeCoil := true }
    let s := opened 7 (following (.deadTime .awaitLeader) .intertrip (opened 6 (withFeeder 6 x zone)))
    (s.blocks.feeder? 6 = some x ∧ s.env.aux 6 = .opened ∧ s.env.partner 6 = some 7 ∧ s.blocks.sq.waiting = [] ∧
        (s.blocks.feeder? 7).map (fun y => (y.role, y.state)) = some (.follower, .deadTime .awaitLeader) ∧
        s.blocks.section? 5 = some s5 ∧ s5.permits = 0) ∧ RunAgrees s ∧ PermitsAgree s ∧
      stateOf 7 (after (.contactReportClosed 6) s) = some (.lineTest .precheck) := by
  refine ⟨by decide +kernel, by apply agrees <;> decide +kernel, ?_, by decide +kernel⟩
  exact ⟨by decide +kernel, by decide +kernel, fun h => absurd h (by decide +kernel), each_section (by decide +kernel)⟩

/-- F6 closes in S5 DEAD: SEC_LIVE takes the place of its SEC_DEAD. -/
theorem witness_ClosedReportsEndCloses_broadcast :
    let s := atRadio (fun r => { r with txAck := true, txQueue := [.secDead 5 .dead, .secLive 4] })
      (opened 7 (following .lockout .partner (opened 6 (withFeeder 6 { f6 with state := .closing } (atSection 5
        (fun z => { z with state := .dead }) zone)))))
    s.blocks.sq.waiting = [] ∧ (s.blocks.section? 5).map (fun z => (z.state, z.permits)) = some (.dead, 0) ∧ s.env.aux 6 = .opened ∧
      (after (.contactReportClosed 6) s).blocks.rlc.txQueue = [.secLive 5, .secLive 4] := by
  decide +kernel

/-- F6 TRIPPING and F8 CLOSING with their timers due; F4 is the other feeder of B0, CLOSED, or CLOSING with its contact OPEN. -/
theorem witness_TripAndCloseTimersFailTheBreaker :
    let x : Feeder := { f6 with state := .tripping, stateTimer := some ⟨900, 100⟩ }
    let s := withFeeder 6 x zone
    let y : Feeder := { f8 with state := .closing, stateTimer := some ⟨800, 200⟩ }
    let u := withFeeder 8 y zone
    let v := opened 4 (atFeeder 4 (fun z => { z with state := .closing }) s)
    (∀ r ∈ [s, v], r.mode = .run ∧ r.blocks.feeder? 6 = some x ∧ r.env.partner 6 ≠ some 6 ∧ r.blocks.sq.waiting = [] ∧
        100 ≤ (r.time - 900).toNat ∧ r.env.busFeeders 0 = [4, 6] ∧
        (r.blocks.feeder? 4).any (fun z => decide z.Live) = true) ∧
      (s.env.aux 4 = .closed ∧ v.env.aux 4 = .opened ∧ x.state ≠ .closed) ∧
      (u.mode = .run ∧ u.blocks.feeder? 8 = some y ∧ u.env.partner 8 ≠ some 8 ∧ (∀ w ∈ u.blocks.sq.waiting, w.feeder ≠ 8) ∧
        200 ≤ (u.time - 800).toNat ∧ ((at' 999 u).time - 800).toNat < 200) ∧ RunAgrees s ∧ PermitsAgree s := by
  refine ⟨by decide +kernel, by decide +kernel, by decide +kernel, by apply agrees <;> decide +kernel, ?_⟩
  exact ⟨by decide +kernel, by decide +kernel, fun h => absurd h (by decide +kernel), each_section (by decide +kernel)⟩

/-- F6's T_trip runs out in S5 with F7, of the other bus, its follower: in a dead time it locks out, CLOSED it loses its role. -/
theorem witness_TripAndCloseTimersFailTheBreaker_partner :
    let s (st : FeederState) := opened 7 (following st .intertrip
      (withFeeder 6 { f6 with state := .tripping, stateTimer := some ⟨900, 100⟩, role := .leader } zone))
    let u := following .closed .step (withFeeder 6 { f6 with state := .tripping, stateTimer := some ⟨900, 100⟩ } zone)
    RunAgrees (s (.deadTime .timing)) ∧ RunAgrees u ∧
      (∀ r ∈ [s (.deadTime .timing), u], r.blocks.sq.waiting = [] ∧ r.env.partner 6 = some 7 ∧ r.env.busFeeders 0 = [4, 6]) ∧
      ((after (.tripTimerExpiry 6) (s (.deadTime .timing))).blocks.feeder? 7).map (fun y => (y.state, y.cause)) =
        some (.lockout, some .partner) ∧
      ((after (.tripTimerExpiry 6) u).blocks.feeder? 7).map (fun y => (y.state, y.role)) = some (.closed, .none) := by
  refine ⟨by apply agrees <;> decide +kernel, by apply agrees <;> decide +kernel, ?_⟩
  decide +kernel

/-- F8 in a dead time that is due: hot, waiting for a partner, and neither; with a place in the Insert Queue and without. -/
theorem witness_DeadSettleAndResetTimers :
    let x : Feeder := { f8 with state := .deadTime .timing, stateTimer := some ⟨1000, 3000⟩ }
    let s (y : Feeder) := at' 4000 (withFeeder 8 y zone)
    (s x).mode = .run ∧ (s x).blocks.feeder? 8 = some x ∧ 3000 ≤ ((s x).time - 1000).toNat ∧
      (s x).blocks.sq.inserts.length < 4 ∧
      ({ x with cause := some .thermal, pu := { x.pu with theta := 30000 } } : Feeder).conn.settings.thetaAlarm ≤ 30000 ∧
      ({ x with role := .follower } : Feeder).role = .follower ∧ (s x).env.partner 8 = none ∧
      ¬ (atSq (fun q => { q with inserts := List.replicate 4 ⟨.calibrate, 3, 8, []⟩ }) (s x)).blocks.sq.inserts.length < 4 ∧
      (let y : Feeder := { f8 with state := .lineTest .settle, stateTimer := some ⟨1000, 200⟩ }
       (s y).blocks.feeder? 8 = some y ∧ 200 ≤ ((s y).time - 1000).toNat) ∧
      (let y : Feeder := { f8 with state := .closed, resetTimer := some ⟨1000, 3000⟩ }
       (s y).blocks.feeder? 8 = some y ∧ 3000 ≤ ((s y).time - 1000).toNat) ∧
      (s f8).blocks.feeder? 8 = some f8 ∧ f8.state = .opened := by
  and_intros <;> decide +kernel

/-- F8 in every state, its section uncovered, and settings that shorten the sequence. -/
theorem witness_FeederRequestsActByState :
    (∀ st ∈ [FeederState.opened, .closing, .closed, .tripping, .deadTime .timing, .lineTest .test, .waitClear, .lockout, .held,
        .breakerFail],
      let x := { f8 with state := st, attempts := 2 }
      let s := withFeeder 8 x zone
      s.mode = .run ∧ Roomy .dispatch s ∧ s.blocks.feeder? 8 = some x ∧ s.blocks.section? x.conn.sec = some s6 ∧
        s.env.partner 8 ≠ some 8 ∧ (∀ w ∈ s.blocks.sq.waiting, w.feeder ≠ 8)) ∧
      s6.inhibit = 0 ∧ s6.permits = 0 ∧ zone.env.aux 8 = .opened ∧ f4.state = .closed ∧ zone.env.aux 4 = .closed ∧
      zone.blocks.feeder? 15 = none ∧
      (∃ new clamped, readProtection { args with nRc := 1 } = some (new, clamped)) ∧ ¬ ThresholdsFit { args with nRc := 5 } := by
  and_intros <;> first | decide +kernel | exact ⟨{ settings with nRc := 1 }, false, by decide⟩

/-- F8 failed with its contact closed, in a section that is inhibited and covered. -/
theorem witness_FeederRequestsActByState_covered :
    let x : Feeder := { f8 with state := .breakerFail }
    let s := atSection 6 (fun z => { z with inhibit := 1, permits := 1 })
      { withFeeder 8 x zone with pins := { zone.pins with aux := zone.pins.aux.setIfInBounds 8 .closed } }
    s.mode = .run ∧ Roomy .dispatch s ∧ s.blocks.feeder? 8 = some x ∧
      s.blocks.section? x.conn.sec = some { s6 with inhibit := 1, permits := 1 } ∧ s.env.aux 8 = .closed := by decide +kernel

/-! ### Permits and readings -/

theorem zone_agrees : RunAgrees zone := by apply agrees <;> decide +kernel

theorem permitted_agrees : RunAgrees permitted := by apply agrees <;> decide +kernel

/-- The permits of a state in RUN agree with its sections where they agree one by one. -/
theorem permits_agree {s : State} (hr : s.mode = .run) (hn : (s.blocks.permits.map (·.number)).Nodup)
    (hd : ∀ p ∈ s.blocks.permits, p.secs.Nodup)
    (h : ∀ k < 24, ∀ x, s.blocks.section? k = some x →
      x.permits = (s.blocks.permits.filter fun p => decide (k ∈ p.secs)).length ∧ (x.state = .isolated ↔ 0 < x.permits)) :
    PermitsAgree s := ⟨hn, hd, fun hc => absurd hc (by simp [hr]), each_section h⟩

theorem zone_permits : PermitsAgree zone := by apply permits_agree <;> decide +kernel

theorem zone_obeys : SectionsObeyed zone := by apply obeys _ (none_wait (by decide +kernel)) <;> decide +kernel

/-- ISOLATE in the zone, with F6 CLOSED and F8 OPEN to be covered; each refusal; RELEASE of a permit that uncovers S5 and S6. -/
theorem witness_PermitsAreTakenAndReleased :
    (zone.mode = .run ∧ Roomy .works zone ∧
        (1 ≤ 65535 ∧ [4, 5, 6].length ≤ 4 ∧ [4, 5, 6].Nodup ∧ ∀ sec ∈ [4, 5, 6], (zone.blocks.section? sec).isSome = true) ∧
        zone.blocks.permits = [] ∧ (zone.blocks.section? 7).isSome = false ∧
        zone.blocks.section? f6.conn.sec = some s5 ∧ s5.permits = 0 ∧ (∀ w ∈ zone.blocks.sq.waiting, w.feeder ≠ 6)) ∧
      (RunAgrees zone ∧ PermitsAgree zone ∧ SectionsObeyed zone) ∧
      (permitted.mode = .run ∧ Roomy .works permitted ∧
        permitted.blocks.permits = [⟨701, [5, 6], .pending, 1000⟩] ∧ (permitted.blocks.section? 5).map (·.permits) = some 1 ∧
        stateOf 6 permitted = some .tripping ∧ stateOf 8 permitted = some .held) ∧
      (RunAgrees permitted ∧ PermitsAgree permitted ∧ SectionsObeyed permitted) ∧
      32 ≤ (atBlocks (fun b => { b with permits := List.replicate 32 ⟨1, [4], .granted, 0⟩ }) zone).blocks.permits.length := by
  refine ⟨by decide +kernel, ⟨zone_agrees, zone_permits, zone_obeys⟩, by decide +kernel, ⟨permitted_agrees, ?_, ?_⟩,
    by decide +kernel⟩
  · apply permits_agree <;> decide +kernel
  · apply obeys _ (none_wait (by decide +kernel)) <;> decide +kernel

/-- A feeder, section, point, permit and vehicle to read, numbers beyond the ranges, and numbers that name nothing. -/
theorem witness_ReadingsReportTheRecords :
    (zone.mode = .run ∧ RunAgrees zone ∧ (∀ p, Roomy p zone) ∧ zone.blocks.feeder? 6 = some f6 ∧
        zone.blocks.section? f6.conn.sec = some s5 ∧ zone.blocks.feeder? 15 = none ∧ zone.blocks.section? 23 = none ∧
        zone.blocks.point? 15 = none ∧ (zone.blocks.point? 2).isSome = true) ∧
      (∃ q ∈ permitted.blocks.permits, q.number = 701) ∧ (permitted.blocks.permits.map (·.number)).Nodup ∧
      (let s := tracked [vehicle 214 4] zone
       (∃ v ∈ s.blocks.vt.vehicles, v.id = 214) ∧ (s.blocks.vt.vehicles.map (·.id)).Nodup ∧
         (∀ v ∈ s.blocks.vt.vehicles, v.id ≠ 4095) ∧ s.net.network.isSome = true) ∧
      (let q := (after (answer 20 5310) (walk 2 20 zone)).blocks.sq
       2 < q.length ∧ (look q.slots 2).map (·.binding) = some (some 5) ∧
         ∀ j < 2, ∀ y, look q.slots j = some y → y.binding ≠ some 5) := by
  refine ⟨⟨?_, zone_agrees, fun p => by cases p <;> decide +kernel, ?_⟩, ⟨⟨701, [5, 6], .pending, 1000⟩, ?_⟩, ?_, ⟨⟨vehicle 214 4, ?_⟩, ?_⟩, ?_⟩ <;>
    decide +kernel

/-! ### Points -/

/-- Point 2 idle with an empty queue: stopped by each flag, counted, faulted, in an unpowered section, at the leg asked for and at
the other; and with four reservations. -/
theorem witness_ReservationsAreMadeAndRemoved :
    (∀ x ∈ [p2, { p2 with failed := true }, { p2 with blocked := true }, { p2 with worksHeld := true }, { p2 with countFault := true },
        { p2 with count := 3 }, { p2 with link := { p2.link with work := .resync } }],
      let s := withPoint x idle
      s.mode = .run ∧ Roomy .traffic s ∧ s.blocks.point? 2 = some x ∧ x.queue = [] ∧ x.drive = .idle ∧ x.Tidy) ∧
      p2.Unstopped ∧ p2.link.work = .none ∧ idle.env.position 2 .idle = legPosition .left ∧ idle.env.position 2 .idle ≠ legPosition .right ∧
      idle.blocks.powered p2.frame.sec = true ∧ idle.net.network.isSome = true ∧
      (atSection 5 (fun z => { z with lowVoltage := true }) idle).blocks.powered p2.frame.sec = false ∧
      (let q := [1, 2, 3, 65535].map fun r => (⟨.right, some 4095, r, none, false⟩ : Reservation)
       (withPoint { p2 with queue := q } idle).blocks.point? 2 = some { p2 with queue := q } ∧ ({ p2 with queue := q } : Point).Tidy ∧
         4 ≤ q.length ∧ 65535 ∈ q.map (·.rtag) ∧ 4 ∉ q.map (·.rtag)) ∧
      idle.blocks.point? 15 = none ∧
      (∀ q x, idle.blocks.point? q = some x → x.Tidy) := by
  and_intros <;> first | decide +kernel | exact each_point (by decide +kernel)

/-- Point 2 idle, at work, held, failed and blocked, with an overdue head over a collector. -/
theorem witness_PointFlagsAreSetAndCleared :
    (∀ x ∈ [p2, { p2 with drive := .moving, target := some .right }, { p2 with drive := .sending, target := some .right },
        { p2 with worksHeld := true, drive := .worksHeld }, { p2 with failed := true, drive := .failed },
        { p2 with blocked := true, drive := .blocked },
        { p2 with count := 1, queue := [⟨.left, none, 41, some 900, true⟩] }],
      let s := withPoint x idle
      s.mode = .run ∧ Roomy .works s ∧ Roomy .traffic s ∧ s.blocks.point? 2 = some x ∧ x.Tidy) ∧
      idle.blocks.point? 15 = none := by decide +kernel

/-- Point 2 MOVING to the right with the left contact just opened, SENDING, QUEUED to the right, ACTIVE on the left, over a collector
and not, with T_hold, T_point and the BUSY delay due and not. -/
theorem witness_ContactsAndTimersMoveThePoint :
    (let r : Reservation := ⟨.right, some 214, 41, none, false⟩
     let a : Reservation := ⟨.left, some 307, 42, some 900, false⟩
     ∀ x ∈ [{ p2 with drive := .moving, target := some .right, queue := [r] }, { p2 with drive := .sending, target := some .right, queue := [r] },
         { p2 with drive := .queued, target := some .right, queue := [r] }, { p2 with queue := [a], hold := some ⟨900, 100⟩ },
         { p2 with queue := [a], hold := some ⟨900, 100⟩, count := 3 }, { p2 with queue := [a], hold := some ⟨900, 101⟩ },
         { p2 with drive := .moving, target := some .right, queue := [r], link := { p2.link with tPoint := some ⟨900, 100⟩ } },
         { p2 with drive := .moving, target := some .right, attempt := 1, queue := [r], link := { p2.link with tPoint := some ⟨900, 100⟩ } },
         { p2 with drive := .sending, queue := [r], link := { p2.link with busyDelay := some ⟨950, 50⟩ } }],
       let s := withPoint x idle
       s.mode = .run ∧ s.blocks.point? 2 = some x ∧ x.Tidy ∧ x.Unstopped) ∧
      idle.blocks.powered p2.frame.sec = true ∧ p2.count = 0 ∧ p2.countFault = false ∧
      idle.env.position 2 .idle = legPosition .left ∧ idle.env.position 2 .idle ≠ legPosition .right ∧
      (let s := { idle with pins := { idle.pins with leftDetection := idle.pins.leftDetection.setIfInBounds 2 .opened } }
       Contact.closed ≠ s.env.rightContact 2 ∧ s.env.leftContact 2 = .opened) ∧
      Contact.opened ≠ idle.env.leftContact 2 ∧ 100 ≤ (idle.time - 900).toNat ∧ (idle.time - 900).toNat < 101 ∧
      settlePoint idle.env 2 idle.blocks = idle.blocks := by
  and_intros <;> decide +kernel

/-- P2 QUEUED to the right for tag 41, its THROW pending. -/
def queued2 : Point :=
  { p2 with drive := .queued, target := some .right, queue := [⟨.right, some 214, 41, none, false⟩]
            link := { p2.link with work := .throw } }

/-- The head of the Drive Queue: a RESYNC, a THROW that is clear, and two that are not; no queue. -/
theorem witness_DriveTransactionsRunAndEnd :
    (∀ x ∈ [{ p2 with link := { p2.link with work := .resync } }, queued2, { queued2 with count := 1 }, { queued2 with queue := [] }],
      let s := atBlocks (fun b => { b with dlc := { b.dlc with queue := [2] } }) (withPoint x idle)
      s.mode = .run ∧ s.blocks.dlc.link = none ∧ s.blocks.dlc.rest = none ∧ s.blocks.dlc.queue = [2] ∧
        s.blocks.point? 2 = some x ∧ x.Tidy) ∧
      (p2.count = 0 ∧ idle.blocks.powered p2.frame.sec = true ∧ p2.Unstopped ∧ p2.countFault = false) ∧
      idle.blocks.dlc.link = none ∧ idle.blocks.dlc.queue = [] := by decide +kernel

/-- Behind a THROW that is refused, P3's RESYNC and P3's clear THROW. -/
theorem witness_DriveTransactionsRunAndEnd_next :
    ∀ y ∈ [{ p2 with link := { p2.link with work := .resync } }, queued2],
      let s := atBlocks (fun b => { b.setPoint 3 y with dlc := { b.dlc with queue := [2, 3] } })
        (withPoint { queued2 with count := 1 } idle)
      s.mode = .run ∧ s.blocks.dlc.link = none ∧ s.blocks.dlc.rest = none ∧ s.blocks.dlc.queue = [2, 3] ∧ 2 ∉ [3] ∧
        s.blocks.point? 2 = some { queued2 with count := 1 } ∧ s.blocks.point? 3 = some y ∧ y.Tidy ∧
        ((after .driveTransactionStart s).blocks.dlc.link.map (fun x => (x.point, x.resync))) =
          some (3, decide (y.link.work = .resync)) := by
  decide +kernel

/-- A THROW and a RESYNC on the line, with the first and the third send made, their expiry due and not; the frog at its target and
elsewhere; the section powered and not; answers that fit no row. -/
theorem witness_DriveTransactionsRunAndEnd_answers :
    let fl (resync : Bool) : DriveFlight := ⟨2, resync, [], ⟨970, 30⟩⟩
    let x (n : Nat) : Point := { queued2 with drive := .sending, link := { queued2.link with sends := n } }
    let s (r : Bool) (n : Nat) := atBlocks (fun b => { b with dlc := { b.dlc with link := some (fl r) } }) (withPoint (x n) idle)
    (∀ n ∈ [1, 2, 3], (s false n).mode = .run ∧ (s false n).blocks.dlc.link = some (fl false) ∧ (s false n).blocks.point? 2 = some (x n) ∧
        (x n).Tidy ∧ (x n).drive = .sending ∧ (s true n).blocks.dlc.link = some (fl true)) ∧
      30 ≤ ((s false 1).time - 970).toNat ∧ ((at' 999 (s false 1)).time - 970).toNat < 30 ∧
      (s false 1).blocks.powered p2.frame.sec = true ∧ (s false 1).env.position 2 .moving ≠ legPosition .right ∧
      (s false 1).env.position 2 .moving = legPosition .left ∧
      (atSection 5 (fun z => { z with lowVoltage := true }) (s false 1)).blocks.powered p2.frame.sec = false ∧
      checkOk [2, 1] = false ∧ (s false 1).net.network.isSome = true ∧
      (∀ bytes ∈ [[2, 6, 0, 255, 248], [2, 0, 1, 255, 253], [2, 1, 2, 255, 251], [2, 1, 1, 255, 252]],
        ((after (.driveAnswer .sound bytes) (s false 1)).blocks.point? 2).map (·.link.sends) = some 2) ∧
      ∀ bytes ∈ [[2, 2, 0, 255, 252], [2, 4, 0, 255, 250], [2, 5, 1, 255, 248], [2, 1, 1, 255, 252]],
        ((after (.driveAnswer .sound bytes) (s true 1)).blocks.point? 2).map (·.link.sends) = some 2 := by
  and_intros <;> decide +kernel

theorem witness_ThrowsAreSentOnlyWhenClear :
    let s := atBlocks (fun b => { b with dlc := { b.dlc with queue := [2] } }) (drives .queued idle)
    let t := after .driveTransactionStart s
    PointsBounded s ∧ exec .driveTransactionStart s = .next t ∧
      t.blocks.dlc.link = some ⟨2, false, [2, 1, 2, 0, 255, 251], ⟨1000, 30⟩⟩ ∧ s.blocks.dlc.link = none := by
  refine ⟨each_point (by decide +kernel), ?_, by decide +kernel, by decide +kernel⟩
  obtain ⟨t, ht⟩ := next_of_runs .driveTransactionStart
    (atBlocks (fun b => { b with dlc := { b.dlc with queue := [2] } }) (drives .queued idle)) (by decide +kernel)
  simp only [after, ht]

/-! ### Passes and vehicles -/

/-- D10 with contact a closed alone: at another time, at the same time, and not alone; passes that wait for it; P2's counts at their
ends; a head that a facing exit releases. -/
theorem witness_PassesAreFormedAndMatched :
    (look zone.pins.detB 10 = none ∧ look (entering 900 zone).pins.detA 10 = some ⟨900, true⟩ ∧ (900 : Time) ≠ zone.time ∧
        look (entering 1000 zone).pins.detA 10 = some ⟨zone.time, true⟩ ∧ look zone.pins.detA 10 = none) ∧
      zone.mode = .run ∧ look zone.net.detectors 10 = some ⟨some 4, some 5⟩ ∧ look zone.net.detectors 47 = none ∧
      zone.env.roleOf 10 = some (2, .entry) ∧ zone.env.roleOf 12 = some (2, .leftExit) ∧ zone.env.roleOf 11 = none ∧
      p2.frame.entryDir = .ab ∧ p2.frame.leftDir = .ab ∧
      (∀ x ∈ [p2, { p2 with count := 3 }, { p2 with count := 1, queue := [⟨.left, none, 41, some 900, true⟩] }],
        (withPoint x idle).blocks.point? 2 = some x ∧ x.Tidy) ∧
      (let s := tracked [vehicle 214 4] zone
       vehicle 214 4 ∈ s.blocks.vt.vehicles ∧ (vehicle 214 4).id = 214 ∧ (s.blocks.vt.vehicles.map (·.id)).Nodup) ∧
      zone.blocks.passes = [] := by
  and_intros <;> decide +kernel

/-- At D10 going AB: a telegram of 214 that waits behind another detector's; a full list whose oldest entry is a contact, and one
whose oldest is a telegram. -/
theorem witness_PassesAreFormedAndMatched_list :
    let at10 (ps : List PassEntry) : State := entering 900 (atBlocks (fun b => { b with passes := ps }) (tracked [vehicle 214 4] zone))
    let others (n : Nat) : List PassEntry := List.replicate n ⟨.contact, 12, .ab, 800⟩
    let matching (e : PassEntry) := e.kind ≠ .contact ∧ e.det = 10 ∧ e.dir = .ab
    let waiting := at10 (others 1 ++ ⟨.telegram 214, 10, .ab, 810⟩ :: others 1)
    (∀ e ∈ others 31, ¬ matching e) ∧
      (waiting.blocks.passes = others 1 ++ ⟨.telegram 214, 10, .ab, 810⟩ :: others 1 ∧
        located 214 (after (.detectorContactClosing 10 .b) waiting) = [some 5]) ∧
      32 ≤ (at10 (others 32)).blocks.passes.length ∧
      (let full := at10 (⟨.telegram 214, 10, .ba, 800⟩ :: others 31)
       (∀ e ∈ full.blocks.passes, ¬ matching e ∨ e.dir = .ba) ∧ 32 ≤ full.blocks.passes.length ∧
         look full.net.detectors 10 = some ⟨some 4, some 5⟩ ∧
         ((after (.detectorContactClosing 10 .b) full).blocks.vt.vehicles.map fun v => (v.sec, v.unconfirmed)) = [(some 4, true)]) := by
  decide +kernel

/-- Entries that have reached T_match at the very millisecond, and one that has not. -/
theorem witness_PassesAreFormedAndMatched_expiry :
    zone.mode = .run ∧ (zone.net.network.map (·.tMatch)) = some 2000 ∧ 2000 ≤ ((at' 3000 zone).time - 1000).toNat ∧
      ¬ 2000 ≤ ((at' 2999 zone).time - 1000).toNat ∧ look zone.net.detectors 10 = some ⟨some 4, some 5⟩ := by decide +kernel

/-- A known, an unknown and a lost vehicle; a table of 64, with a LOST vehicle and without; a detector that is loaded and one that
is not; silences due and not. -/
theorem witness_VehiclesAreHeardAndForgotten :
    let many (lost : Bool) : List Vehicle := (List.range 64).map fun n => { vehicle (n + 1) 4 with lost := lost && decide (n = 0) }
    zone.mode = .run ∧ ((tracked [vehicle 214 4] zone).blocks.vt.vehicles.map (·.id)).Nodup ∧ zone.blocks.rlc.rxQueue = [] ∧
      (heard (.pos 214 10 .ab) zone).blocks.rlc.rxQueue = [⟨.pos 214 10 .ab, 1038⟩] ∧
      (∀ x ∈ [vehicle 214 4], x.id ≠ 215) ∧ look zone.net.detectors 10 = some ⟨some 4, some 5⟩ ∧ look zone.net.detectors 47 = none ∧
      ((many true).map (·.id)).Nodup ∧ 64 ≤ (many true).length ∧ (∀ x ∈ many true, x.id ≠ 214) ∧
      (∀ x ∈ many false, x.lost = false) ∧
      (∃ x ∈ many true, x.lost = true ∧ ∀ y ∈ many true, y.lost = true →
        ((2000 : Time) - y.heard).toNat < ((2000 : Time) - x.heard).toNat ∨
          ((2000 : Time) - y.heard).toNat = ((2000 : Time) - x.heard).toNat ∧ x.id ≤ y.id) ∧
      (zone.net.network.map (·.tSilence)) = some 60 ∧ 60 * 1000 ≤ ((61000 : Time) - (vehicle 214 4).heard).toNat ∧
      ((60999 : Time) - (vehicle 214 4).heard).toNat < 60 * 1000 ∧ Roomy .traffic zone := by
  and_intros <;> decide +kernel

/-- A vehicle with a fault to clear, and one without. -/
theorem witness_VehiclesAreHeardAndForgotten_faults :
    let x : Vehicle := { vehicle 520 5 with faults := [⟨.leakage, 35, none, 900, 900⟩] }
    x ∈ (tracked [x] zone).blocks.vt.vehicles ∧ (∃ y ∈ x.faults, y.code.number = 2) ∧ ∀ y ∈ x.faults, y.code.number ≠ 5 := by
  refine ⟨by decide +kernel, ⟨⟨.leakage, 35, none, 900, 900⟩, by decide, rfl⟩, by decide⟩

/-- F6 in a dead time and F7 CLOSED over 307 in S5, with no fault; and F6 in WAIT_CLEAR over its DEWIRE. -/
def upon (x : Vehicle) (n : Nat) (st : FeederState) : State :=
  tracked [x] (atSection 5 (fun z => { z with inhibit := n })
    (opened 6 (atFeeder 6 (fun y => { y with state := st, cause := some .step }) idle)))

def dewired : Vehicle := { vehicle 307 5 with faults := [⟨.dewire, 3, some 12, 900, 900⟩] }

/-- A new DEWIRE at P2's detector and a new LEAKAGE with TRIP_SECTION, both inhibiting S5; a CLR that ends the inhibit. -/
theorem witness_VehiclesAreHeardAndForgotten_actions :
    let s (c : FaultCode) := heard (.flt 307 c 3 12) (upon (vehicle 307 5) 0 (.deadTime .timing))
    let leak : State := { s .leakage with net := { zone.net with network := zone.net.network.map fun n => { n with leakage := .tripSection } } }
    let u := heard (.clr 307 none) (upon dewired 1 .waitClear)
    (∀ t ∈ [s .dewire, leak, u], t.mode = .run ∧ (t.blocks.section? 5).isSome = true ∧ t.env.roleOf 12 = some (2, .leftExit) ∧
        (look t.net.detectors 12).isSome = true) ∧
      (RunAgrees (s .dewire) ∧ PermitsAgree (s .dewire) ∧ SectionsObeyed (s .dewire)) ∧ RunAgrees leak ∧
      (stateOf 6 (after .vtTakeTelegram (s .dewire)) = some .waitClear ∧ stateOf 7 (after .vtTakeTelegram (s .dewire)) = some .closed ∧
        driveState (after .vtTakeTelegram (s .dewire)) = some .blocked) ∧
      ((after .vtTakeTelegram leak).blocks.feeder? 7).map (fun y => (y.state, y.cause)) = some (.tripping, some .vehicle) ∧
      (dewired.sec = some 5 ∧ ((after .vtTakeTelegram u).blocks.feeder? 6).map (fun y => (y.state, y.stateTimer)) =
        some (.deadTime .timing, some ⟨1000, 3000⟩)) := by
  refine ⟨by decide +kernel, ⟨?_, ?_, ?_⟩, ?_, by decide +kernel, by decide +kernel, by decide +kernel⟩
  · apply agrees <;> decide +kernel
  · apply permits_agree <;> decide +kernel
  · apply obeys _ (none_wait (by decide +kernel)) <;> decide +kernel
  · apply agrees <;> decide +kernel

/-- 307 leaves S5's inhibit count by RETIRE, by CLEAR_FAULT, and by a POS into S4, whose F4 is in a dead time. -/
theorem witness_VehiclesAreHeardAndForgotten_leaves :
    let u := upon dewired 1 .waitClear
    let m := heard (.pos 307 10 .ba) (atBlocks (fun b => { b with passes := [⟨.contact, 10, .ba, 900⟩] })
      (opened 4 (atFeeder 4 (fun y => { y with state := .deadTime .timing }) (atSection 4 (fun z => { z with state := .dead }) u))))
    let freed (t : State) := (t.blocks.feeder? 6).map fun y => (y.state, y.stateTimer)
    (dewired.sec = some 5 ∧ (∃ y ∈ dewired.faults, y.Inhibits) ∧ (u.blocks.section? 5).map (·.inhibit) = some 1 ∧
        (m.blocks.section? 4).map (fun z => (z.occupancy, z.inhibit)) = some (0, 0)) ∧
      RunAgrees u ∧ (RunAgrees m ∧ PermitsAgree m ∧ SectionsObeyed m) ∧
      (∀ t ∈ [after (.retire .traffic 1 307) u, after (.clearFault .traffic 1 307 1) u, after .vtTakeTelegram m],
        freed t = some (.deadTime .timing, some ⟨1000, 3000⟩) ∧ (t.blocks.section? 5).map (·.inhibit) = some 0) ∧
      stateOf 4 (after .vtTakeTelegram m) = some .waitClear ∧
      ((after .vtTakeTelegram m).blocks.section? 4).map (fun z => (z.occupancy, z.inhibit)) = some (1, 1) := by
  refine ⟨?_, ?_, ⟨?_, ?_, ?_⟩, by decide +kernel, by decide +kernel, by decide +kernel⟩
  · exact ⟨rfl, ⟨⟨.dewire, 3, some 12, 900, 900⟩, by decide, .inl rfl⟩, by decide +kernel⟩
  · apply agrees <;> decide +kernel
  · apply agrees <;> decide +kernel
  · apply permits_agree <;> decide +kernel
  · apply obeys _ (none_wait (by decide +kernel)) <;> decide +kernel

/-- 520, which leaks, in S4 under TRIP_SECTION; S5 is fed by F6 and F7. -/
def leaking : State :=
  let s := tracked [{ vehicle 520 4 with faults := [⟨.leakage, 35, none, 900, 900⟩] }]
    (atSection 4 (fun z => { z with inhibit := 1 }) idle)
  { s with net := { s.net with network := s.net.network.map fun n => { n with leakage := .tripSection } } }

/-- It moves to S5 by a POS at a contact that waits, by a contact at its POS that waits, and by the expiry of its POS. -/
theorem witness_moves_of_a_leaking_vehicle :
    let waits := atBlocks (fun b => { b with passes := [⟨.telegram 520, 10, .ab, 900⟩] }) leaking
    (RunAgrees leaking ∧ PermitsAgree leaking ∧ SectionsObeyed leaking) ∧
      (leaking.net.network.map (·.leakage)) = some .tripSection ∧
      ∀ t ∈ [after .vtTakeTelegram (heard (.pos 520 10 .ab) (atBlocks (fun b => { b with passes := [⟨.contact, 10, .ab, 900⟩] }) leaking)),
          after (.detectorContactClosing 10 .b) (entering 900 waits), after .passEntryExpiry (at' 2900 waits)],
        located 520 t = [some 5] ∧ (t.blocks.feeder? 6).map (fun y => (y.state, y.cause)) = some (.tripping, some .vehicle) ∧
          stateOf 7 t = some .tripping ∧ stateOf 4 t = some .closed := by
  refine ⟨⟨?_, ?_, ?_⟩, by decide +kernel, by decide +kernel⟩
  · apply agrees <;> decide +kernel
  · apply permits_agree <;> decide +kernel
  · apply obeys _ (none_wait (by decide +kernel)) <;> decide +kernel

/-- A DEWIRE at P2 of a vehicle without a record; a FLT that is repeated over a full Transmit Queue, with the flag clear and set. -/
theorem witness_VehiclesAreHeardAndForgotten_telegrams :
    let new := after .vtTakeTelegram (heard (.flt 308 .dewire 3 12) idle)
    let full (lost : Bool) := atRadio (fun r => { r with txQueue := List.replicate 8 (.fltAck 520 .leakage), txOverflow := lost })
      (heard (.flt 307 .dewire 3 12) (tracked [dewired] idle))
    (new.blocks.vt.vehicles.map (fun x => (x.id, x.sec, x.faults.length)) = [(308, none, 1)] ∧ driveState new = some .blocked ∧
        new.blocks.rlc.txQueue = [.ptBlock 2 12, .fltAck 308 .dewire]) ∧
      (∃ y ∈ dewired.faults, y.code = .dewire) ∧ dewired.lost = false ∧
      kinds .traffic (after .vtTakeTelegram (full false)) = [.txOverflow] ∧ kinds .traffic (after .vtTakeTelegram (full true)) = [] ∧
      (after .vtTakeTelegram (atRadio (fun r => { r with txQueue := [.ptBlock 2 10] })
        (heard (.flt 307 .dewire 3 12) (tracked [vehicle 307 5] idle)))).blocks.rlc.txQueue = [.ptBlock 2 12, .fltAck 307 .dewire] := by
  refine ⟨by decide +kernel, ⟨_, List.mem_singleton.2 rfl, rfl⟩, rfl, by decide +kernel, by decide +kernel, by decide +kernel⟩

/-! ### Radio -/

/-- Telegrams of each kind whose gap is due, one of four bytes, one of another group, and one of no byte; the three ways to send. -/
theorem witness_RadioTelegramsAreTakenAndSent :
    let clean (bs : List Byte) : List RadioByte := bs.map fun x => ⟨x, false⟩
    (∀ bs ∈ [withCheck [17, 1, 0, 214, 10, 0], withCheck [17, 2, 15, 255, 1, 3, 12], withCheck [17, 3, 0, 1, 0], [17, 1, 0, 214], [23],
        withCheck [17, 1, 0, 0, 10, 0], withCheck [17, 3, 16, 0, 0], withCheck [17, 3, 0, 1, 0, 0]],
      let s := received bs zone
      s.mode = .run ∧ (s.net.network.map (·.radioGroup)) = some 17 ∧ s.blocks.rlc.inGap = false ∧
        3 ≤ (s.time - s.blocks.rlc.lastByte).toNat ∧ s.blocks.rlc.assembling = some (clean bs)) ∧
      wordOf 15 255 = 4095 ∧ wordOf 0 1 = 1 ∧ wordOf 0 0 = 0 ∧ wordOf 16 0 = 4096 ∧ ((17 : Byte).toNat = 17 ∧ (23 : Byte).toNat ≠ 17) ∧
      ((at' 998 (received [23] zone)).time - 996).toNat < 3 ∧
      (let r := (atRadio (fun r => { r with txEnable := true, txAck := true, txQueue := [.secLive 5] }) zone).blocks.rlc
       r.txAck = true ∧ r.sending = none ∧ r.gapAfterSend = none ∧ r.inGap = true ∧ r.allStop = false ∧ r.txQueue = [.secLive 5]) ∧
      (Roomy .traffic zone ∧ Roomy .dispatch zone ∧ zone.blocks.rlc.txAck = false) := by
  and_intros <;> decide +kernel

/-- The eighth bad telegram in a row, by each of the cases 1 and 3 to 7; a good one over a full Receive Queue. -/
theorem witness_RadioTelegramsAreTakenAndSent_notices :
    let marked (n : Nat) (bs : List Byte) : List RadioByte := bs.zipIdx.map fun x => ⟨x.1, decide (x.2 = n)⟩
    let s (bs : List RadioByte) := atRadio (fun r => { r with badRun := 7, assembling := some bs }) (received [] zone)
    let pos := withCheck [17, 1, 0, 214, 10, 0]
    (∀ x ∈ [(1, marked 0 pos), (3, marked 7 pos), (4, marked 99 [17, 1, 0, 214]), (5, marked 99 [17, 1, 1, 214, 10, 0, 255, 14]),
        (6, marked 99 (withCheck [17, 4, 0, 214, 10, 0])), (7, marked 99 (withCheck [17, 1, 0, 0, 10, 0])),
        (7, marked 99 (withCheck [17, 3, 0, 1, 0, 0]))],
      ((after .receiveIdleGap (s x.2)).port .traffic).queue = [.notice ⟨1000, .radioDegraded 8 x.1⟩]) ∧
      (let t := atRadio (fun r => { r with rxQueue := List.replicate 16 ⟨.clr 1 none, 900⟩ }) (received pos zone)
       ((after .receiveIdleGap t).port .traffic).queue = [.notice ⟨1000, .radioOverrun 1 .pos 214⟩]) := by
  and_intros <;> decide +kernel

end Sys2Proof.Tests
end

namespace Sys2Proof.Machine.Protection

open Sys2Proof Sys2Proof.Machine

/-! ## Which feeder names a channel (R12, R21, R41) -/

/-- The feeder found for a channel is a loaded one whose record names it. -/
theorem feederBy_some {b : Blocks} {sel : FeederRec → Nat} {ch f : Nat} (h : b.feederBy sel ch = some f) :
    ∃ x, b.feeder? f = some x ∧ sel x.conn = ch := by
  simpa using List.find?_some h

/-- No feeder is found for a channel exactly where no loaded feeder names it. -/
theorem feederBy_eq_none {b : Blocks} {sel : FeederRec → Nat} {ch : Nat} :
    b.feederBy sel ch = none ↔ ∀ f x, b.feeder? f = some x → sel x.conn ≠ ch := by
  unfold Blocks.feederBy
  rw [List.find?_eq_none]
  constructor
  · intro h f x hx hc
    exact h f (List.mem_range.2 (look_lt _ _ _ hx)) (by simp [hx, hc])
  · intro h f _ hf
    obtain ⟨x, hx, hc⟩ : ∃ x, b.feeder? f = some x ∧ sel x.conn = ch := by simpa using hf
    exact h f x hx hc

/-- The feeder that alone names its current channel is the one found for it. -/
theorem feederBy_of_owns {b : Blocks} {f : Nat} {x : Feeder} (h : OwnsCurrent b f x) :
    b.feederBy (·.currentCh) x.conn.currentCh = some f := by
  obtain ⟨hx, only⟩ := h
  cases hf : b.feederBy (·.currentCh) x.conn.currentCh with
  | none => exact absurd rfl (feederBy_eq_none.1 hf f x hx)
  | some g =>
    obtain ⟨y, hy, hc⟩ := feederBy_some hf
    rw [only g y hy hc]

theorem isCurrent_iff {b : Blocks} {ch : Nat} :
    isCurrent b ch = true ↔ ∃ f x, b.feeder? f = some x ∧ x.conn.currentCh = ch := by
  unfold isCurrent
  cases hf : b.feederBy (·.currentCh) ch with
  | none => simpa using feederBy_eq_none.1 hf
  | some g => obtain ⟨y, hy⟩ := feederBy_some hf; simpa using ⟨g, y, hy⟩

/-! ## The sample of a result (R41) -/

theorem sampleAt_of_owns {b : Blocks} {f : Nat} {x : Feeder} (h : OwnsCurrent b f x) (valid : Bool) (r : Int) :
    sampleAt b x.conn.currentCh valid r = classify true x.pu.offset valid r := by
  have hc : isCurrent b x.conn.currentCh = true := isCurrent_iff.2 ⟨f, x, h.1, rfl⟩
  have ho : offsetOf b x.conn.currentCh = x.pu.offset := by simp [offsetOf, feederBy_of_owns h, h.1]
  rw [sampleAt, hc, ho]

theorem sampleAt_of_voltage {b : Blocks} {ch : Nat} (h : ∀ f x, b.feeder? f = some x → x.conn.currentCh ≠ ch)
    (valid : Bool) (r : Int) : sampleAt b ch valid r = classify false 0 valid r := by
  have hn := feederBy_eq_none.2 h
  have hc : isCurrent b ch = false := by simp [isCurrent, hn]
  have ho : offsetOf b ch = 0 := by simp [offsetOf, hn]
  rw [sampleAt, hc, ho]

/-- The value of a sample lies within the clamp, whatever the code and the offset. -/
theorem classify_value_bounds (cur : Bool) (off : Int) (valid : Bool) (r : Int) :
    -12000 ≤ (classify cur off valid r).value ∧ (classify cur off valid r).value ≤ 12000 := by
  unfold classify Config.valueMax
  split_ifs <;> constructor <;> simp <;> omega

/-- A result without the VALID flag makes an INVALID sample. -/
theorem classify_invalid_iff (cur : Bool) (off : Int) (valid : Bool) (r : Int) :
    (classify cur off valid r).cls = .invalid ↔ valid = false := by
  unfold classify
  cases valid
  · simp
  · simp only [Bool.true_eq_false, if_false]
    split_ifs <;> simp

/-- Settles O39: each line of R41's table, on a current channel with its feeder's offset, and on a voltage channel. -/
theorem samplesAreClassifiedByTheTable : Obligations.SamplesAreClassifiedByTheTable := by
  intro b ch valid r hlo hhi
  refine ⟨fun h => by simp [sampleAt, classify, h], fun h hr => by simp [sampleAt, classify, h, hr, Config.valueMax],
    fun h h1 h2 => ⟨fun f x hx hc => ?_, fun hv => ?_⟩, fun h hr => ⟨fun hc => ?_, fun hv => ?_⟩⟩
  · have hr1 : r ≠ 32767 := by omega
    have hr2 : r ≠ -32768 := by omega
    rw [← hc, sampleAt_of_owns hx]
    refine ⟨fun h3 => ?_, fun h3 => ?_, fun h3 h4 => ?_⟩
    · simp [classify, h, hr1, hr2, Config.valueMax, h3]
    · have h4 : ¬ 12000 < r - x.pu.offset := by omega
      simp [classify, h, hr1, hr2, Config.valueMax, h3, h4]
    · have h5 : ¬ 12000 < r - x.pu.offset := by omega
      have h6 : ¬ r - x.pu.offset < -12000 := by omega
      simp [classify, h, hr1, hr2, Config.valueMax, h5, h6]
  · have hr1 : r ≠ 32767 := by omega
    have hr2 : r ≠ -32768 := by omega
    rw [sampleAt_of_voltage hv]
    refine ⟨fun h3 => ?_, fun h3 h4 => ?_, fun h3 => ?_⟩
    · simp [classify, h, hr1, hr2, h3]
    · have h5 : ¬ r < 0 := by omega
      have h6 : ¬ 12000 < r := by omega
      simp [classify, h, hr1, hr2, Config.valueMax, h5, h6]
    · have h5 : ¬ r < 0 := by omega
      simp [classify, h, hr1, hr2, Config.valueMax, h3, h5]
  · simp [sampleAt, classify, h, hr, isCurrent_iff.2 hc, Config.valueMax]
  · simp [sampleAt_of_voltage hv, classify, h, hr]

end Sys2Proof.Machine.Protection

namespace Sys2Proof.Machine.Protection

open Sys2Proof Sys2Proof.Machine

/-! ## What leaves θ and the offset of every feeder -/

/-- The record holds θ and the offset of `x` (R47). -/
def SameThermal (x y : Feeder) : Prop := y.pu.theta = x.pu.theta ∧ y.pu.offset = x.pu.offset

/-- From `b` to `c` every feeder keeps θ and its offset. -/
def ThermalKept (b c : Blocks) : Prop := ∀ f, Kept SameThermal (b.feeder? f) (c.feeder? f)

theorem SameThermal.refl (x : Feeder) : SameThermal x x := ⟨rfl, rfl⟩

theorem SameThermal.trans {x y z : Feeder} (h : SameThermal x y) (k : SameThermal y z) : SameThermal x z :=
  ⟨k.1.trans h.1, k.2.trans h.2⟩

/-- A record that is kept is still there. -/
theorem kept_some {α : Type} {r : α → α → Prop} {x : α} {o : Option α} (h : Kept r (some x) o) : ∃ y, o = some y ∧ r x y := by
  cases h with
  | some h => exact ⟨_, rfl, h⟩

/-- A record found afterwards was there before. -/
theorem kept_some_right {α : Type} {r : α → α → Prop} {y : α} {o : Option α} (h : Kept r o (some y)) :
    ∃ x, o = some x ∧ r x y := by
  cases h with
  | some h => exact ⟨_, rfl, h⟩

theorem Kept.mono {α : Type} {r q : α → α → Prop} (hrq : ∀ {x y}, r x y → q x y) {x y : Option α} (h : Kept r x y) :
    Kept q x y := by
  cases h with
  | none => exact .none
  | some h => exact .some (hrq h)

theorem ThermalKept.refl (b : Blocks) : ThermalKept b b := fun _ => Machine.Kept.refl .refl _

theorem ThermalKept.trans {a b c : Blocks} (h : ThermalKept a b) (k : ThermalKept b c) : ThermalKept a c :=
  fun f => Machine.Kept.trans .trans (h f) (k f)

variable {a b c : Blocks}

/-- Whatever leaves the Feeder Table alone. -/
theorem ThermalKept.same (h : ThermalKept a b) (hf : c.feeders = b.feeders) : ThermalKept a c :=
  fun f => by rw [show c.feeder? f = b.feeder? f by rw [Blocks.feeder?, hf]; rfl]; exact h f

/-- Whatever writes records only as their owners write them. -/
theorem ThermalKept.records (h : ThermalKept a b) (k : RecordsKept b c) : ThermalKept a c :=
  h.trans fun f => Kept.mono (fun s => ⟨s.theta, s.offset⟩) (k.feeders f)

theorem ThermalKept.points (h : ThermalKept a b) (k : PointEvents b c) : ThermalKept a c := h.same k.feeders

theorem ThermalKept.say (h : ThermalKept a b) (e : Env) (n : NoticeBody) : ThermalKept a (say e n b) := h.same rfl

theorem ThermalKept.withSq (h : ThermalKept a b) (q : Sq) : ThermalKept a { b with sq := q } := h.same rfl

theorem ThermalKept.withMq (h : ThermalKept a b) (m : Mq) : ThermalKept a { b with mq := m } := h.same rfl

theorem ThermalKept.withPermits (h : ThermalKept a b) (ps : List Permit) : ThermalKept a { b with permits := ps } :=
  h.same rfl

theorem ThermalKept.withPasses (h : ThermalKept a b) (ps : List PassEntry) : ThermalKept a { b with passes := ps } :=
  h.same rfl

theorem ThermalKept.withVt (h : ThermalKept a b) (vt : Vt) : ThermalKept a { b with vt := vt } := h.same rfl

theorem ThermalKept.withRlc (h : ThermalKept a b) (r : Rlc) : ThermalKept a { b with rlc := r } := h.same rfl

theorem ThermalKept.setVehicle (h : ThermalKept a b) (v : Vehicle) : ThermalKept a (b.setVehicle v) := h.same rfl

theorem ThermalKept.setSection (h : ThermalKept a b) (sec : Nat) (x : SectionRec) : ThermalKept a (b.setSection sec x) :=
  h.same rfl

theorem ThermalKept.ite {p : Prop} [Decidable p] (h : ThermalKept a b) (k : ThermalKept a c) :
    ThermalKept a (if p then b else c) := by
  split <;> assumption

theorem ThermalKept.foldl {α : Type} (f : Blocks → α → Blocks) (hf : ∀ c x, ThermalKept a c → ThermalKept a (f c x))
    (xs : List α) (h : ThermalKept a b) : ThermalKept a (xs.foldl f b) := by
  induction xs generalizing b with
  | nil => exact h
  | cons x xs ih => exact ih (hf b x h)

/-! ### Scanning, calibration requests, permits -/

theorem ThermalKept.announceMeasurements (h : ThermalKept a b) (e : Env) : ThermalKept a (announceMeasurements e b) := by
  unfold Machine.announceMeasurements
  exact .ite ((h.withMq _).say e _) h

theorem ThermalKept.writeList (h : ThermalKept a b) (first len : Nat) (es : List ScanEntry) (e : Env) :
    ThermalKept a (writeList first len es e b) :=
  ThermalKept.foldl _ (fun c sec hc => hc.records ((RecordsKept.refl c).setLowVoltage e sec false)) _ (h.withSq _)

theorem ThermalKept.walkOn (h : ThermalKept a b) (e : Env) : ThermalKept a (walkOn e b) := by
  unfold Machine.walkOn
  exact .ite (h.withSq _) (h.records ((RecordsKept.refl b).beginEntry e))

theorem ThermalKept.writePermitCount (h : ThermalKept a b) (e : Env) (sec n : Nat) :
    ThermalKept a (writePermitCount e sec n b) := by
  unfold Machine.writePermitCount
  split
  · exact h
  next x _ =>
    have k := (h.setSection sec { x with permits := n }).records ((RecordsKept.refl _).deriveSection e sec)
    exact .ite (k.records ((RecordsKept.refl _).cover e sec)) (.ite (k.records ((RecordsKept.refl _).uncover e sec)) k)

theorem ThermalKept.isolate (h : ThermalKept a b) (n : Nat) (secs : List Nat) (e : Env) :
    ThermalKept a (isolate n secs e b) :=
  (ThermalKept.foldl _ (fun _ sec hc => hc.writePermitCount e sec _) secs h).withPermits _ |>.say e _

theorem ThermalKept.release (h : ThermalKept a b) (p : Permit) (e : Env) : ThermalKept a (release p e b) :=
  ThermalKept.foldl _ (fun _ sec hc => hc.writePermitCount e sec _) _ ((h.withPermits _).say e _)

/-- SET_PROTECTION writes the settings and leaves θ (R47, R88). -/
theorem ThermalKept.protect (h : ThermalKept a b) (new : Settings) (f : Nat) (e : Env) :
    ThermalKept a (protect new f e b) := by
  unfold Machine.protect
  split
  · exact h
  next x hx =>
    have k {y : Feeder} (hy : SameThermal x y) : ThermalKept a (b.setFeeder f y) :=
      h.trans fun g => Machine.Kept.put .refl _ _ _ _ hx hy g
    refine .ite (ThermalKept.records (k ?_) ((RecordsKept.refl _).sayFeeder e f)) (k ?_)
    all_goals exact ⟨rfl, rfl⟩

/-! ### Vehicles -/

theorem ThermalKept.writeCounts (h : ThermalKept a b) (sec : Option Nat) (o i : Nat → Nat) :
    ThermalKept a (writeCounts sec o i b) := by
  unfold Machine.writeCounts
  split
  · exact h
  · exact h.same rfl

theorem ThermalKept.inhibitChanged (h : ThermalKept a b) (e : Env) (sec : Option Nat) (was : Nat) :
    ThermalKept a (inhibitChanged e sec was b) :=
  h.records ((RecordsKept.refl b).inhibitChanged e sec was)

theorem ThermalKept.sectionTrip (h : ThermalKept a b) (e : Env) (sec : Option Nat) :
    ThermalKept a (sectionTrip e sec b) :=
  h.records ((RecordsKept.refl b).sectionTrip e sec)

theorem ThermalKept.sayEntered (h : ThermalKept a b) (e : Env) (v : Nat) (sec : Option Nat) (det : Nat) (ok : Bool) :
    ThermalKept a (sayEntered e v sec det ok b) := by
  unfold Machine.sayEntered
  split
  · exact h
  · split
    · exact h
    · split
      · exact h.say e _
      · exact h.say e _
      · exact h

theorem ThermalKept.moveVehicle (h : ThermalKept a b) (e : Env) (v det : Nat) (d : Dir) (ok : Bool)
    (note : Option Nat → Option Nat → NoticeBody) : ThermalKept a (moveVehicle e v det d ok note b) := by
  unfold Machine.moveVehicle
  split
  · exact h
  next x _ =>
    have counts {c : Blocks} (hc : ThermalKept a c) (p : Prop) [Decidable p] (sec : Option Nat) (o i : Nat → Nat) :
        ThermalKept a (if p then Machine.writeCounts sec o i c else c) := .ite (hc.writeCounts sec o i) hc
    have told {c : Blocks} (hc : ThermalKept a c) (n₁ n₂ : Nat) := ((hc.sayEntered e v (entered e det d) det ok).inhibitChanged e
      x.sec n₁).inhibitChanged e (entered e det d) n₂
    have moved := fun p q (_ : Decidable p) (_ : Decidable q) y =>
      ((counts ((counts h p x.sec (· - 1) (downIf x.inhibits)).setVehicle y) q (entered e det d) (· + 1)
        (upIf x.inhibits)).say e (note x.sec (entered e det d)))
    exact .ite (.ite ((told (moved _ _ _ _ _) _ _).sectionTrip e _) (told (moved _ _ _ _ _) _ _)) (moved _ _ _ _ _)

theorem ThermalKept.expireEntry (h : ThermalKept a b) (e : Env) (x : PassEntry) (forced : Bool) :
    ThermalKept a (expireEntry e x forced b) := by
  unfold Machine.expireEntry
  split
  · exact h.say e _
  · exact h.moveVehicle e _ _ _ _ _

theorem ThermalKept.appendPass (h : ThermalKept a b) (e : Env) (x : PassEntry) : ThermalKept a (appendPass e x b) := by
  unfold Machine.appendPass
  refine ThermalKept.withPasses ?_ _
  split
  · exact h
  · split
    · exact h
    · exact (h.withPasses _).expireEntry e _ _

theorem ThermalKept.contactArrives (h : ThermalKept a b) (e : Env) (det : Nat) (d : Dir) :
    ThermalKept a (contactArrives e det d b) := by
  unfold Machine.contactArrives
  split
  · exact (h.withPasses _).moveVehicle e _ _ _ _ _
  · exact h.appendPass e _

theorem ThermalKept.telegramArrives (h : ThermalKept a b) (e : Env) (v det : Nat) (d : Dir) (t : Time) :
    ThermalKept a (telegramArrives e v det d t b) := by
  unfold Machine.telegramArrives
  split
  · exact (h.withPasses _).moveVehicle e _ _ _ _ _
  · exact .ite (h.withPasses _) (h.appendPass e _)

theorem ThermalKept.passExpires (h : ThermalKept a b) (e : Env) : ThermalKept a (passExpires e b) := by
  unfold Machine.passExpires
  split
  · exact h
  · exact (h.withPasses _).expireEntry e _ _

theorem ThermalKept.passEvent (h : ThermalKept a b) (det : Nat) (d : Dir) (e : Env) :
    ThermalKept a (passEvent det d e b) := by
  unfold Machine.passEvent
  exact .ite ((h.contactArrives e det d).points ((PointEvents.refl _).pointPass e det d)) h

theorem ThermalKept.removeVehicle (h : ThermalKept a b) (e : Env) (x : Vehicle) :
    ThermalKept a (removeVehicle e x b) := by
  unfold Machine.removeVehicle
  exact ((((h.writeCounts x.sec _ _).inhibitChanged e x.sec _).withPasses _).points
    ((PointEvents.refl _).cancelVehicle e x.id)).withVt _

theorem ThermalKept.addVehicle (h : ThermalKept a b) (e : Env) (v : Nat) (k : RxKind) (t : Time) :
    ThermalKept a (addVehicle e v k t b) :=
  (h.withVt _).say e _

theorem ThermalKept.createVehicle (h : ThermalKept a b) (e : Env) (v : Nat) (k : RxKind) (t : Time) :
    ThermalKept a (createVehicle e v k t b) := by
  unfold Machine.createVehicle
  split
  · exact h.addVehicle e v k t
  · split
    · exact ((h.removeVehicle e _).say e _).addVehicle e v k t
    · exact .ite ((h.withVt _).say e _) h

theorem ThermalKept.setFaults (h : ThermalKept a b) (e : Env) (x : Vehicle) (fs : List FaultEntry)
    {after : Blocks → Blocks} (ha : ∀ b, (after b).feeders = b.feeders) : ThermalKept a (setFaults e x fs after b) := by
  unfold Machine.setFaults
  exact (((h.setVehicle _).same (ha _)).writeCounts _ _ _).inhibitChanged e _ _

theorem ThermalKept.faultActions (h : ThermalKept a b) (e : Env) (x : Vehicle) (code : FaultCode) (det : Option Nat) :
    ThermalKept a (faultActions e x code det b) := by
  unfold Machine.faultActions
  split
  · split
    · exact h
    · split
      · exact h
      · exact h.points ((PointEvents.refl b).blockPoint e _ _ _)
  · exact h.sectionTrip e _
  · exact h

theorem ThermalKept.takeFlt (h : ThermalKept a b) (e : Env) (v : Nat) (code : FaultCode) (detail det : Nat) (t : Time) :
    ThermalKept a (takeFlt e v code detail det t b) := by
  unfold Machine.takeFlt
  split
  · exact h
  · refine ThermalKept.points (.ite ?_ ?_) ((PointEvents.refl _).handTelegram e _)
    · exact h.setVehicle _
    · exact (h.setFaults e _ _ (say_feeders e _)).faultActions e _ _ _

theorem ThermalKept.clearFaults (h : ThermalKept a b) (e : Env) (v : Nat) (code : Option FaultCode) (src : ClearSource) :
    ThermalKept a (clearFaults e v code src b) := by
  unfold Machine.clearFaults
  split
  · exact h
  · exact .ite h (h.setFaults e _ _ fun c => ((PointEvents.refl c).sayAll e _).feeders)

theorem ThermalKept.actOnTelegram (h : ThermalKept a b) (e : Env) (t : RxTelegram) :
    ThermalKept a (actOnTelegram e t b) := by
  unfold Machine.actOnTelegram
  split
  · exact .ite (h.telegramArrives e _ _ _ _) h
  · exact h.takeFlt e _ _ _ _ _
  · exact h.clearFaults e _ _ _

theorem ThermalKept.hearVehicle (h : ThermalKept a b) (e : Env) (x : Vehicle) (t : Time) :
    ThermalKept a (hearVehicle e x t b) := by
  unfold Machine.hearVehicle
  exact .ite ((h.setVehicle _).say e _) (h.setVehicle _)

theorem ThermalKept.takeTelegram (h : ThermalKept a b) (e : Env) : ThermalKept a (takeTelegram e b) := by
  unfold Machine.takeTelegram
  split
  · exact h
  next t ts _ =>
    have k := h.withRlc { b.rlc with rxQueue := ts }
    dsimp only
    split
    · exact (k.hearVehicle e _ _).actOnTelegram e _
    · refine .ite k ?_
      exact .ite ((k.createVehicle e _ _ _).actOnTelegram e _) (k.createVehicle e _ _ _)

theorem ThermalKept.silenceExpires (h : ThermalKept a b) (v : Nat) (e : Env) :
    ThermalKept a (silenceExpires v e b) := by
  unfold Machine.silenceExpires
  split
  · exact h
  · exact .ite (((h.setVehicle _).withVt _).say e _) h

/-! ### The radio link -/

theorem endTelegram_feeders (e : Env) (b : Blocks) : (endTelegram e b).feeders = b.feeders := by
  unfold endTelegram countBad queueTelegram
  split
  · rfl
  · dsimp only
    split
    · rfl
    · split <;> rfl
    · split <;> rfl

theorem idleGap_feeders (e : Env) (b : Blocks) : (idleGap e b).feeders = b.feeders := by
  unfold idleGap
  split
  · exact endTelegram_feeders e b
  · rfl

theorem startSending_feeders (e : Env) (b : Blocks) : (startSending e b).feeders = b.feeders := by
  unfold startSending
  split
  · split <;> rfl
  · rfl

theorem endSending_feeders (e : Env) (b : Blocks) : (endSending e b).feeders = b.feeders := by
  unfold endSending
  split <;> rfl

end Sys2Proof.Machine.Protection

namespace Sys2Proof.Machine.Protection

open Sys2Proof Sys2Proof.Machine

/-! ## Requests -/

/-- A relation on blocks that a request obeys when its own effects do: it goes on from step to step, and holds of whatever
leaves the Feeder Table alone. -/
structure OnFeeders (R : Blocks → Blocks → Prop) : Prop where
  trans : ∀ {a b c}, R a b → R b c → R a c
  same : ∀ {a b}, b.feeders = a.feeders → R a b

/-- What an answer does before and after its reply obeys `R`. -/
def Obeys (R : Blocks → Blocks → Prop) (a : Answer) : Prop :=
  (∀ s, R s.blocks (a.before s).blocks) ∧ ∀ s, R s.blocks (a.after s).blocks

variable {R : Blocks → Blocks → Prop}

theorem amendPort_feeders (p : Port) (g : PortState → PortState) (s : State) :
    (s.amendPort p g).blocks.feeders = s.blocks.feeders := rfl

/-- An answer that only replies. -/
theorem Obeys.reply (hR : OnFeeders R) (c : ReplyCode) (clamped : Bool) (r : ReplyResult) :
    Obeys R { code := c, clamped := clamped, result := r } :=
  ⟨fun _ => hR.same rfl, fun _ => hR.same rfl⟩

theorem Obeys.refuse (hR : OnFeeders R) (c : ReplyCode) : Obeys R (refuse c) := .reply hR c _ _

theorem Obeys.effect (hR : OnFeeders R) {c : ReplyCode} {f : Env → Blocks → Blocks} (r : ReplyResult)
    (h : ∀ e b, R b (f e b)) : Obeys R (effect c f r) :=
  ⟨fun _ => hR.same rfl, fun s => h s.env s.blocks⟩

theorem Obeys.ite {p : Prop} [Decidable p] {a a' : Answer} (h : Obeys R a) (k : Obeys R a') :
    Obeys R (if p then a else a') := by
  split <;> assumption

theorem Obeys.naming (hR : OnFeeders R) {α : Type} {n : Nat} (t : Vector (Option α) n) (i : Nat) {k : α → Answer}
    (h : ∀ x, Obeys R (k x)) : Obeys R (naming t i k) := by
  unfold Machine.naming
  split
  · split
    · exact .refuse hR _
    · exact h _
  · exact .refuse hR _

theorem Obeys.judge (hR : OnFeeders R) (p : Port) (k : ReqKind) {own : State → Answer} (s : State) (h : Obeys R (own s)) :
    Obeys R (judge p k own s) := by
  unfold Machine.judge
  split
  · split
    · exact .refuse hR _
    · exact h
  · exact .refuse hR _

/-- A request obeys what its own answer obeys (R181 to R183). -/
theorem takeRequest_obeys (hR : OnFeeders R) (p : Port) (tag : Nat) (k : ReqKind) {own : State → Answer} (s : State)
    (h : Obeys R (own s)) : R s.blocks (takeRequest p tag k own s).blocks := by
  unfold takeRequest
  split
  · exact hR.same rfl
  · obtain ⟨before, after⟩ := Obeys.judge hR p k s h
    refine hR.trans (before s) (hR.trans ?_ (after _))
    exact hR.same rfl

theorem onFeeders_thermalKept : OnFeeders ThermalKept := ⟨.trans, fun h => (ThermalKept.refl _).same h⟩

/-! ## Requests that leave θ and the offsets -/


/-- The answer leaves θ and the offset of every feeder. -/
abbrev LeavesThermal (a : Answer) : Prop := Obeys ThermalKept a

theorem leaves_refuse (c : ReplyCode) : LeavesThermal (refuse c) := .refuse onFeeders_thermalKept c

theorem leaves_reply (c : ReplyCode) (clamped : Bool) (r : ReplyResult) :
    LeavesThermal { code := c, clamped := clamped, result := r } :=
  .reply onFeeders_thermalKept c clamped r

theorem leaves_effect {c : ReplyCode} {f : Env → Blocks → Blocks} (r : ReplyResult)
    (h : ∀ e b, ThermalKept b (f e b)) : LeavesThermal (effect c f r) :=
  .effect onFeeders_thermalKept r h

/-- An effect that leaves the Feeder Table alone. -/
theorem leaves_elsewhere {c : ReplyCode} {f : Env → Blocks → Blocks} (r : ReplyResult)
    (h : ∀ e b, (f e b).feeders = b.feeders) : LeavesThermal (effect c f r) :=
  leaves_effect r fun e b => (ThermalKept.refl b).same (h e b)

/-- An effect that writes records only as their owners write them. -/
theorem leaves_records {c : ReplyCode} {f : Env → Blocks → Blocks} (r : ReplyResult)
    (h : ∀ e b, RecordsKept b (f e b)) : LeavesThermal (effect c f r) :=
  leaves_effect r fun e b => (ThermalKept.refl b).records (h e b)

/-- An effect on points. -/
theorem leaves_points {c : ReplyCode} {f : Env → Blocks → Blocks} (r : ReplyResult)
    (h : ∀ e b, PointEvents b (f e b)) : LeavesThermal (effect c f r) :=
  leaves_effect r fun e b => (ThermalKept.refl b).points (h e b)

theorem leaves_naming {α : Type} {n : Nat} (t : Vector (Option α) n) (i : Nat) {k : α → Answer}
    (h : ∀ x, LeavesThermal (k x)) : LeavesThermal (naming t i k) :=
  .naming onFeeders_thermalKept t i h

theorem leaves_loadInto (clamped : Bool) (g : NetTables → NetTables) : LeavesThermal (loadInto clamped g) :=
  ⟨fun s => .refl s.blocks, fun s => .refl s.blocks⟩

/-! ### Loads and ports -/

theorem answerLoadNetwork_leaves (a : NetworkArgs) (s : State) : LeavesThermal (answerLoadNetwork a s) := by
  unfold answerLoadNetwork
  split
  · exact leaves_refuse _
  · exact leaves_loadInto _ _

theorem answerLoadSection_leaves (sec : Nat) (s : State) : LeavesThermal (answerLoadSection sec s) :=
  .ite (leaves_loadInto _ _) (leaves_refuse _)

theorem answerLoadFeeder_leaves (a : FeederArgs) (s : State) : LeavesThermal (answerLoadFeeder a s) := by
  unfold answerLoadFeeder
  split
  · exact leaves_refuse _
  · exact leaves_loadInto _ _

theorem answerLoadDetector_leaves (det x y : Nat) (s : State) : LeavesThermal (answerLoadDetector det x y s) := by
  unfold answerLoadDetector
  split
  · exact leaves_refuse _
  · exact leaves_loadInto _ _

theorem answerLoadPoint_leaves (a : PointArgs) (s : State) : LeavesThermal (answerLoadPoint a s) := by
  unfold answerLoadPoint
  split
  · exact leaves_refuse _
  · exact leaves_loadInto _ _

theorem clearReported_feeders (p : Port) (s : State) : (clearReported p s).blocks.feeders = s.blocks.feeders := by
  cases p <;> rfl

theorem answerReadStatus_leaves (p : Port) (s : State) : LeavesThermal (answerReadStatus p s) :=
  ⟨fun s => .refl s.blocks, fun s => (ThermalKept.refl s.blocks).same (clearReported_feeders p s)⟩

theorem answerSetMask_leaves (p : Port) (ks : List Nat) (s : State) : LeavesThermal (answerSetMask p ks s) := by
  unfold answerSetMask
  split
  · exact leaves_refuse _
  · exact ⟨fun s => .refl s.blocks, fun s => (ThermalKept.refl s.blocks).same (amendPort_feeders p _ s)⟩

theorem answerSetLineMode_leaves (p : Port) (m g r : Nat) (s : State) : LeavesThermal (answerSetLineMode p m g r s) := by
  unfold answerSetLineMode
  split
  · exact ⟨fun s => (ThermalKept.refl s.blocks).same (amendPort_feeders p _ s), fun s => .refl s.blocks⟩
  · exact leaves_refuse _

/-! ### Scanning -/

theorem answerWriteScan_leaves (es : List ScanArgs) (first len : Nat) (s : State) :
    LeavesThermal (answerWriteScan es first len s) := by
  unfold answerWriteScan
  split
  iterate 3 exact leaves_refuse _
  all_goals
    refine .ite (leaves_refuse _) ?_
    split
    · exact leaves_refuse _
    · exact .ite (.ite (leaves_effect _ fun e b => (ThermalKept.refl b).writeList first len _ e) (leaves_refuse _))
        (leaves_refuse _)

theorem answerStartScan_leaves (s : State) : LeavesThermal (answerStartScan s) := by
  unfold answerStartScan
  split
  iterate 4 exact leaves_refuse _
  exact .ite (leaves_refuse _) (leaves_effect _ fun e b => ((ThermalKept.refl b).withSq _).walkOn e)

theorem answerStopScan_leaves (s : State) : LeavesThermal (answerStopScan s) := by
  unfold answerStopScan
  split
  iterate 4 exact leaves_elsewhere _ fun _ _ => rfl
  exact leaves_reply _ _ _

theorem answerResumeScan_leaves (s : State) : LeavesThermal (answerResumeScan s) := by
  unfold answerResumeScan
  split
  · exact leaves_effect _ fun e b => (ThermalKept.refl b).walkOn e
  · exact leaves_refuse _

theorem answerCalibrate_leaves (ch : Nat) (s : State) : LeavesThermal (answerCalibrate ch s) :=
  .ite (leaves_refuse _) (.ite (leaves_refuse _) (.ite (leaves_refuse _) (.ite
    (leaves_records _ fun e b => (RecordsKept.refl b).enterInsert e .calibrate ch) (leaves_refuse _))))

theorem answerSetMqThreshold_leaves (n : Nat) (s : State) : LeavesThermal (answerSetMqThreshold n s) :=
  .ite (leaves_refuse _) (leaves_effect _ fun e b =>
    .ite (((ThermalKept.refl b).withMq _).announceMeasurements e) ((ThermalKept.refl b).withMq _))

theorem answerReadMeasurements_leaves (n : Nat) (s : State) : LeavesThermal (answerReadMeasurements n s) :=
  .ite (leaves_refuse _) (leaves_elsewhere _ fun _ _ => rfl)

/-! ### Feeders -/

theorem answerCloseFeeder_leaves (f : Nat) (s : State) : LeavesThermal (answerCloseFeeder f s) := by
  refine leaves_naming _ _ fun x => ?_
  split
  · exact leaves_reply _ _ _
  iterate 7 exact leaves_refuse _
  all_goals exact .ite (leaves_refuse _) (leaves_records _ fun e b => (RecordsKept.refl b).closeRequested e f)

/-- OPEN_FEEDER only sets the open-pending in CLOSING (R86). -/
theorem recordsKept_openPending (b : Blocks) (f : Nat) :
    RecordsKept b (b.amendFeeder f fun x => { x with openPending := true }) :=
  (RecordsKept.refl b).amendFeeder f _ fun _ => .same rfl rfl rfl rfl rfl rfl rfl rfl

theorem answerOpenFeeder_leaves (f : Nat) (s : State) : LeavesThermal (answerOpenFeeder f s) := by
  refine leaves_naming _ _ fun x => ?_
  split
  · exact leaves_records _ fun e b => ((RecordsKept.refl b).enterTripping e f _ _ _ _).settleTrip e f
  · exact leaves_records _ fun _ b => recordsKept_openPending b f
  iterate 4
    exact leaves_records _ fun e b =>
      ((RecordsKept.refl b).leaveSequence e f _ (SetsFields.withCause _) _).partnerConsequence e f
  iterate 3 exact leaves_reply _ _ _
  exact leaves_refuse _

theorem answerResetFeeder_leaves (f : Nat) (s : State) : LeavesThermal (answerResetFeeder f s) := by
  refine leaves_naming _ _ fun x => ?_
  split
  · exact leaves_records _ fun e b => (RecordsKept.refl b).resetFailed e f _
  · exact leaves_records _ fun e b =>
      ((RecordsKept.refl b).moveFeeder e f _ (SetsFields.withCause _) _).partnerConsequence e f
  · exact leaves_refuse _

theorem answerSetProtection_leaves (f : Nat) (a : ProtectionArgs) (s : State) :
    LeavesThermal (answerSetProtection f a s) := by
  refine leaves_naming _ _ fun x => ?_
  split
  · exact leaves_refuse _
  · exact ⟨fun s => .refl s.blocks, fun s => (ThermalKept.refl s.blocks).protect _ f _⟩

theorem answerReadFeeder_leaves (f : Nat) (s : State) : LeavesThermal (answerReadFeeder f s) :=
  leaves_naming _ _ fun _ => leaves_reply _ _ _

/-! ### Permits and sections -/

theorem answerIsolate_leaves (n : Nat) (secs : List Nat) (s : State) : LeavesThermal (answerIsolate n secs s) :=
  .ite (leaves_refuse _) (.ite (leaves_refuse _) (.ite (leaves_refuse _) (.ite (leaves_refuse _)
    (leaves_effect _ fun e b => (ThermalKept.refl b).isolate n secs e))))

theorem answerRelease_leaves (n : Nat) (s : State) : LeavesThermal (answerRelease n s) := by
  refine .ite (leaves_refuse _) ?_
  split
  · exact leaves_refuse _
  · exact leaves_effect _ fun e b => (ThermalKept.refl b).release _ e

theorem answerReadPermit_leaves (n : Nat) (s : State) : LeavesThermal (answerReadPermit n s) := by
  refine .ite (leaves_refuse _) (.ite (leaves_reply _ _ _) ?_)
  split
  · exact leaves_refuse _
  · exact leaves_reply _ _ _

theorem answerReadSection_leaves (sec : Nat) (s : State) : LeavesThermal (answerReadSection sec s) :=
  leaves_naming _ _ fun _ => leaves_reply _ _ _

/-! ### Points -/

theorem answerReserve_leaves (pt pos v rtag : Nat) (s : State) : LeavesThermal (answerReserve pt pos v rtag s) := by
  unfold answerReserve
  split
  · exact leaves_refuse _
  · refine .ite (leaves_refuse _) (leaves_naming _ _ fun x => .ite (leaves_refuse _) (.ite (leaves_refuse _) ?_))
    exact leaves_points _ fun e b => (PointEvents.refl b).pointEvent e pt _ fun _ hc => hc.amendPoint pt _

theorem answerCancel_leaves (pt rtag : Nat) (s : State) : LeavesThermal (answerCancel pt rtag s) :=
  .ite (leaves_refuse _) (leaves_naming _ _ fun _ => .ite
    (leaves_points _ fun e b => (PointEvents.refl b).pointEvent e pt _ fun _ hc => hc.removeReservations e pt _)
    (leaves_refuse _))

theorem answerFlushPoint_leaves (pt : Nat) (s : State) : LeavesThermal (answerFlushPoint pt s) :=
  leaves_naming _ _ fun _ => leaves_points _ fun e b =>
    (PointEvents.refl b).pointEvent e pt _ fun _ hc => hc.removeReservations e pt _

theorem answerCancelVehicle_leaves (v : Nat) (s : State) : LeavesThermal (answerCancelVehicle v s) :=
  .ite (leaves_refuse _) (leaves_points _ fun e b => (PointEvents.refl b).cancelVehicle e v)

theorem answerHoldPoint_leaves (pt : Nat) (s : State) : LeavesThermal (answerHoldPoint pt s) :=
  leaves_naming _ _ fun _ => leaves_points _ fun e b =>
    (PointEvents.refl b).pointEvent e pt _ fun _ hc => hc.amendPoint pt _

theorem answerFreePoint_leaves (pt : Nat) (s : State) : LeavesThermal (answerFreePoint pt s) :=
  leaves_naming _ _ fun _ => leaves_points _ fun e b =>
    (PointEvents.refl b).pointEvent e pt _ fun _ hc => hc.amendPoint pt _

theorem answerResetPoint_leaves (pt : Nat) (s : State) : LeavesThermal (answerResetPoint pt s) :=
  leaves_naming _ _ fun _ => leaves_points _ fun e b =>
    (PointEvents.refl b).pointEvent e pt _ fun _ hc => hc.amendPoint pt _

theorem answerReadPoint_leaves (pt : Nat) (s : State) : LeavesThermal (answerReadPoint pt s) :=
  leaves_naming _ _ fun _ => leaves_reply _ _ _

/-! ### Vehicles and radio -/

theorem answerRetire_leaves (v : Nat) (s : State) : LeavesThermal (answerRetire v s) := by
  refine .ite (leaves_refuse _) ?_
  split
  · exact leaves_refuse _
  · exact leaves_effect _ fun e b => (ThermalKept.refl b).removeVehicle e _

theorem answerReadVehicle_leaves (v : Nat) (s : State) : LeavesThermal (answerReadVehicle v s) := by
  refine .ite (leaves_refuse _) (.ite (leaves_reply _ _ _) ?_)
  split
  · exact leaves_refuse _
  · exact leaves_reply _ _ _

theorem answerClearFault_leaves (v c : Nat) (s : State) : LeavesThermal (answerClearFault v c s) := by
  unfold answerClearFault
  split
  · exact leaves_refuse _
  · refine .ite (leaves_refuse _) ?_
    split
    · exact leaves_refuse _
    · exact .ite (leaves_refuse _) (leaves_effect _ fun e b => (ThermalKept.refl b).clearFaults e v _ _)

theorem answerRadioEnable_leaves (rx tx : Nat) (s : State) : LeavesThermal (answerRadioEnable rx tx s) := by
  unfold answerRadioEnable
  split
  · exact leaves_elsewhere _ fun _ _ => rfl
  · exact leaves_refuse _

theorem answerFlushRadio_leaves (s : State) : LeavesThermal (answerFlushRadio s) := leaves_elsewhere _ fun _ _ => rfl

theorem answerAllStop_leaves (s : State) : LeavesThermal (answerAllStop s) :=
  .ite (leaves_elsewhere _ fun _ _ => rfl) (leaves_refuse _)

end Sys2Proof.Machine.Protection

namespace Sys2Proof.Machine.Protection

open Sys2Proof Sys2Proof.Machine

/-! ## Commands that leave θ and the offsets -/

theorem takeRequest_thermal (p : Port) (tag : Nat) (k : ReqKind) {own : State → Answer} (s : State)
    (h : LeavesThermal (own s)) : ThermalKept s.blocks (takeRequest p tag k own s).blocks :=
  takeRequest_obeys onFeeders_thermalKept p tag k s h

theorem inRun_thermal {f : Env → Blocks → Blocks} (s : State) (h : ∀ e b, ThermalKept b (f e b)) :
    ThermalKept s.blocks (s.inRun f).blocks := by
  unfold State.inRun
  split
  · exact .refl _
  · exact h _ _

theorem inRun_records {f : Env → Blocks → Blocks} (s : State) (h : ∀ e b, RecordsKept b (f e b)) :
    ThermalKept s.blocks (s.inRun f).blocks :=
  inRun_thermal s fun e b => (ThermalKept.refl b).records (h e b)

theorem inRun_points {f : Env → Blocks → Blocks} (s : State) (h : ∀ e b, PointEvents b (f e b)) :
    ThermalKept s.blocks (s.inRun f).blocks :=
  inRun_thermal s fun e b => (ThermalKept.refl b).points (h e b)

theorem inRun_elsewhere {f : Env → Blocks → Blocks} (s : State) (h : ∀ e b, (f e b).feeders = b.feeders) :
    ThermalKept s.blocks (s.inRun f).blocks :=
  inRun_thermal s fun e b => (ThermalKept.refl b).same (h e b)

theorem readFrame_thermal (p : Port) (phase : ReadPhase) (s t : State) (h : execReadFrame p phase s = .next t) :
    ThermalKept s.blocks t.blocks := by
  cases phase <;> obtain rfl := Host.Outcome.next.inj h <;> exact (ThermalKept.refl _).same (amendPort_feeders p _ s)

theorem lineTimeTick_thermal (s t : State) (h : execLineTimeTick s = .next t) : ThermalKept s.blocks t.blocks := by
  obtain rfl := Host.Outcome.next.inj h
  exact inRun_records ((({ s with time := s.time + 1 } : State)).onBlocks endRests) fun e b =>
    .ite ((RecordsKept.refl b).carryOn e) (.refl b)

theorem detectorContactClosing_thermal (det : Nat) (side : Side) (s t : State)
    (h : execDetectorContactClosing det side s = .next t) : ThermalKept s.blocks t.blocks := by
  unfold execDetectorContactClosing at h
  dsimp only at h
  split at h
  · obtain rfl := Host.Outcome.next.inj h
    exact .refl s.blocks
  · obtain rfl := Host.Outcome.next.inj h
    exact inRun_thermal { s with pins := (closeContact det side s.time s.pins).1 } fun e b =>
      (ThermalKept.refl b).passEvent det _ e

theorem reportContact_thermal (f : Nat) (c : Contact) {act : Nat → Env → Blocks → Blocks}
    (hact : ∀ e b, RecordsKept b (act f e b)) (s : State) : ThermalKept s.blocks (reportContact f c act s).blocks :=
  inRun_records { s with pins := { s.pins with aux := s.pins.aux.setIfInBounds f c } } fun e b =>
    .ite (.refl b) (hact e b)

theorem detectionContactChange_thermal (pt : Nat) (leg : Leg) (c : Contact) (s t : State)
    (h : execDetectionContactChange pt leg c s = .next t) : ThermalKept s.blocks t.blocks := by
  obtain rfl := Host.Outcome.next.inj h
  have k (b : Blocks) (e : Env) := ((PointEvents.refl b).contactsChanged s.env e pt).endPointEvent e pt (pointView s.env pt b)
  unfold State.inRun
  split
  · exact .refl s.blocks
  · exact (ThermalKept.refl s.blocks).points (.ite (.refl _) (k _ _))

/-- The commands that may move θ or write it anew: a converter's result, the resets and START_RUN, and a frame, which may carry
a request of these. -/
def MayWriteThermal (i : Instr) : Prop :=
  (∃ a, i = .converterAnswer a) ∨ i = .converterAnswerExpiry ∨ i = .powerOnReset ∨ (∃ p bytes, i = .requestFrame p bytes) ∨
    (∃ p tag, i = .restart p tag) ∨ ∃ p tag, i = .startRun p tag

/-- Every other command leaves θ and the offset of every feeder (R47). -/
theorem exec_thermal {i : Instr} {s t : State} (hi : ¬ MayWriteThermal i) (h : exec i s = .next t) :
    ThermalKept s.blocks t.blocks := by
  have next {u : State} (hu : ThermalKept s.blocks u.blocks) (h : (.next u : Host.Outcome State Fault Refusal) = .next t) :
      ThermalKept s.blocks t.blocks := by
    obtain rfl := Host.Outcome.next.inj h; exact hu
  cases i with
  | loadNetwork p tag a => exact next (takeRequest_thermal p tag _ s (answerLoadNetwork_leaves a s)) h
  | loadSection p tag sec => exact next (takeRequest_thermal p tag _ s (answerLoadSection_leaves sec s)) h
  | loadFeeder p tag a => exact next (takeRequest_thermal p tag _ s (answerLoadFeeder_leaves a s)) h
  | loadDetector p tag det x y => exact next (takeRequest_thermal p tag _ s (answerLoadDetector_leaves det x y s)) h
  | loadPoint p tag a => exact next (takeRequest_thermal p tag _ s (answerLoadPoint_leaves a s)) h
  | startRun p tag => exact absurd (by simp [MayWriteThermal]) hi
  | restart p tag => exact absurd (by simp [MayWriteThermal]) hi
  | powerOnReset => exact absurd (by simp [MayWriteThermal]) hi
  | lineTimeTick => exact lineTimeTick_thermal s t h
  | requestFrame p bytes => exact absurd (by simp [MayWriteThermal]) hi
  | readFrame p phase => exact readFrame_thermal p phase s t h
  | framingError p => exact next ((ThermalKept.refl _).same (amendPort_feeders p _ s)) h
  | readStatus p tag => exact next (takeRequest_thermal p tag _ s (answerReadStatus_leaves p s)) h
  | setMask p tag ks => exact next (takeRequest_thermal p tag _ s (answerSetMask_leaves p ks s)) h
  | setLineMode p tag m g r => exact next (takeRequest_thermal p tag _ s (answerSetLineMode_leaves p m g r s)) h
  | attentionGapEnd p => exact next ((ThermalKept.refl _).same (amendPort_feeders p _ s)) h
  | attentionPulseEnd p => exact next ((ThermalKept.refl _).same (amendPort_feeders p _ s)) h
  | writeScan p tag es first len => exact next (takeRequest_thermal p tag _ s (answerWriteScan_leaves es first len s)) h
  | startScan p tag => exact next (takeRequest_thermal p tag _ s (answerStartScan_leaves s)) h
  | stopScan p tag => exact next (takeRequest_thermal p tag _ s (answerStopScan_leaves s)) h
  | resumeScan p tag => exact next (takeRequest_thermal p tag _ s (answerResumeScan_leaves s)) h
  | calibrate p tag ch => exact next (takeRequest_thermal p tag _ s (answerCalibrate_leaves ch s)) h
  | setMqThreshold p tag n => exact next (takeRequest_thermal p tag _ s (answerSetMqThreshold_leaves n s)) h
  | readMeasurements p tag n => exact next (takeRequest_thermal p tag _ s (answerReadMeasurements_leaves n s)) h
  | scanSettleExpiry =>
    exact next (inRun_records s fun e b => .ite (((RecordsKept.refl b).withSq _).carryOn e) (.refl b)) h
  | converterAnswer a => exact absurd (by simp [MayWriteThermal]) hi
  | converterAnswerExpiry => exact absurd (by simp [MayWriteThermal]) hi
  | staleTimerExpiry f => exact next (inRun_records s fun e b => (RecordsKept.refl b).staleExpires e f) h
  | contactReportOpen f =>
    exact next (reportContact_thermal f _ (fun e b => (RecordsKept.refl b).contactOpens e f) s) h
  | contactReportClosed f =>
    exact next (reportContact_thermal f _ (fun e b => (RecordsKept.refl b).contactCloses e f) s) h
  | tripTimerExpiry f => exact next (inRun_records s fun e b => (RecordsKept.refl b).tripTimerExpires e f) h
  | closeTimerExpiry f => exact next (inRun_records s fun e b => (RecordsKept.refl b).closeTimerExpires e f) h
  | deadTimeExpiry f => exact next (inRun_records s fun e b => (RecordsKept.refl b).deadTimeExpires e f) h
  | settleTimerExpiry f => exact next (inRun_records s fun e b => (RecordsKept.refl b).settleTimerExpires e f) h
  | resetTimerExpiry f => exact next (inRun_records s fun e b => (RecordsKept.refl b).resetTimerExpires e f) h
  | closeFeeder p tag f => exact next (takeRequest_thermal p tag _ s (answerCloseFeeder_leaves f s)) h
  | openFeeder p tag f => exact next (takeRequest_thermal p tag _ s (answerOpenFeeder_leaves f s)) h
  | resetFeeder p tag f => exact next (takeRequest_thermal p tag _ s (answerResetFeeder_leaves f s)) h
  | setProtection p tag f a => exact next (takeRequest_thermal p tag _ s (answerSetProtection_leaves f a s)) h
  | readFeeder p tag f => exact next (takeRequest_thermal p tag _ s (answerReadFeeder_leaves f s)) h
  | isolate p tag n secs => exact next (takeRequest_thermal p tag _ s (answerIsolate_leaves n secs s)) h
  | release p tag n => exact next (takeRequest_thermal p tag _ s (answerRelease_leaves n s)) h
  | readPermit p tag n => exact next (takeRequest_thermal p tag _ s (answerReadPermit_leaves n s)) h
  | readSection p tag sec => exact next (takeRequest_thermal p tag _ s (answerReadSection_leaves sec s)) h
  | detectionContactChange pt leg c => exact detectionContactChange_thermal pt leg c s t h
  | detectorContactClosing det side => exact detectorContactClosing_thermal det side s t h
  | reserve p tag pt pos v rtag => exact next (takeRequest_thermal p tag _ s (answerReserve_leaves pt pos v rtag s)) h
  | cancel p tag pt rtag => exact next (takeRequest_thermal p tag _ s (answerCancel_leaves pt rtag s)) h
  | flushPoint p tag pt => exact next (takeRequest_thermal p tag _ s (answerFlushPoint_leaves pt s)) h
  | cancelVehicle p tag v => exact next (takeRequest_thermal p tag _ s (answerCancelVehicle_leaves v s)) h
  | holdTimerExpiry pt =>
    exact next (inRun_points s fun e b => (PointEvents.refl b).pointEvent e pt _ fun _ hc => hc.holdExpires e pt) h
  | holdPoint p tag pt => exact next (takeRequest_thermal p tag _ s (answerHoldPoint_leaves pt s)) h
  | freePoint p tag pt => exact next (takeRequest_thermal p tag _ s (answerFreePoint_leaves pt s)) h
  | resetPoint p tag pt => exact next (takeRequest_thermal p tag _ s (answerResetPoint_leaves pt s)) h
  | readPoint p tag pt => exact next (takeRequest_thermal p tag _ s (answerReadPoint_leaves pt s)) h
  | driveTransactionStart => exact next (inRun_records s fun e b => (RecordsKept.refl b).serveDriveQueue _ e) h
  | driveAnswer m bytes =>
    exact next (inRun_records s fun e b => .ite (.refl b) ((RecordsKept.refl b).driveAnswer _ bytes e)) h
  | driveAnswerExpiry => exact next (inRun_records s fun e b => (RecordsKept.refl b).driveExpires e) h
  | busyDelayExpiry pt => exact next (inRun_records s fun e b => (RecordsKept.refl b).busyExpires e pt) h
  | pointTimerExpiry pt =>
    exact next (inRun_points s fun e b => (PointEvents.refl b).pointEvent e pt _ fun _ hc => hc.pointTimerExpires e pt) h
  | passEntryExpiry => exact next (inRun_thermal s fun e b => (ThermalKept.refl b).passExpires e) h
  | silenceExpiry v => exact next (inRun_thermal s fun e b => (ThermalKept.refl b).silenceExpires v e) h
  | vtTakeTelegram => exact next (inRun_thermal s fun e b => (ThermalKept.refl b).takeTelegram e) h
  | retire p tag v => exact next (takeRequest_thermal p tag _ s (answerRetire_leaves v s)) h
  | readVehicle p tag v => exact next (takeRequest_thermal p tag _ s (answerReadVehicle_leaves v s)) h
  | clearFault p tag v c => exact next (takeRequest_thermal p tag _ s (answerClearFault_leaves v c s)) h
  | radioEnable p tag rx tx => exact next (takeRequest_thermal p tag _ s (answerRadioEnable_leaves rx tx s)) h
  | flushRadio p tag => exact next (takeRequest_thermal p tag _ s (answerFlushRadio_leaves s)) h
  | allStop p tag => exact next (takeRequest_thermal p tag _ s (answerAllStop_leaves s)) h
  | receiveIdleGap => exact next (inRun_elsewhere s idleGap_feeders) h
  | transmitStart => exact next (inRun_elsewhere s startSending_feeders) h
  | transmitEnd => exact next (inRun_elsewhere s endSending_feeders) h
  | radioByteArrival byte bad => exact next (inRun_elsewhere (f := takeByte ⟨byte, bad⟩) s fun _ _ => rfl) h
  | detectorContactOpening det side =>
    obtain rfl := Host.Outcome.next.inj h
    exact .refl s.blocks

end Sys2Proof.Machine.Protection

namespace Sys2Proof.Machine.Protection

open Sys2Proof Sys2Proof.Machine

/-! ## What scanning leaves of the Feeder Table and hands to the ports -/

theorem convertEntry_feeders (e : Env) (b : Blocks) : (convertEntry e b).feeders = b.feeders := by
  unfold convertEntry
  split <;> rfl

theorem convertInsert_feeders (e : Env) (b : Blocks) : (convertInsert e b).feeders = b.feeders := by
  unfold convertInsert
  split <;> rfl

theorem beginEntry_feeders (e : Env) (b : Blocks) : (beginEntry e b).feeders = b.feeders := by
  unfold beginEntry
  split
  · rfl
  · dsimp only
    split
    · exact convertEntry_feeders e _
    · rfl

theorem carryOn_feeders (e : Env) (b : Blocks) : (carryOn e b).feeders = b.feeders := by
  unfold carryOn
  split
  · split
    · rfl
    · split
      · exact convertEntry_feeders e b
      · rfl
    · exact convertInsert_feeders e b
    · exact convertInsert_feeders e b
    · split
      · exact convertInsert_feeders e b
      · exact beginEntry_feeders e b
  · rfl

theorem enterInsert_feeders (e : Env) (k : InsertKind) (who : Nat) (b : Blocks) :
    (enterInsert e k who b).feeders = b.feeders := by
  unfold enterInsert
  dsimp only
  split
  · exact carryOn_feeders e _
  · rfl

theorem askInsert_feeders (e : Env) (k : InsertKind) (f : Nat) (b : Blocks) : (askInsert e k f b).feeders = b.feeders := by
  unfold askInsert
  split
  · exact enterInsert_feeders e k f b
  · rfl

theorem setLowVoltage_feeders (e : Env) (sec : Nat) (on : Bool) (b : Blocks) :
    (setLowVoltage e sec on b).feeders = b.feeders := by
  unfold setLowVoltage
  split
  · rfl
  · split
    · rfl
    · exact (((PointEvents.refl _).saySection e sec).sectionPower e sec).feeders

/-- From `b` to `c` no feeder is written, and the ports are handed notices alone. -/
structure NoFeeder (b c : Blocks) : Prop where
  feeders : c.feeders = b.feeders
  po : Notified b.po c.po

namespace NoFeeder

variable {a b : Blocks}

theorem refl (b : Blocks) : NoFeeder b b := ⟨rfl, .refl _⟩

theorem trans {a b c : Blocks} (h : NoFeeder a b) (k : NoFeeder b c) : NoFeeder a c :=
  ⟨k.feeders.trans h.feeders, h.po.trans k.po⟩

theorem ite {p : Prop} [Decidable p] {x y : Blocks} (h : NoFeeder a x) (k : NoFeeder a y) :
    NoFeeder a (if p then x else y) := by
  split <;> assumption

theorem say (h : NoFeeder a b) (e : Env) (n : NoticeBody) : NoFeeder a (say e n b) := h.trans ⟨rfl, .place _ _⟩

theorem withSq (h : NoFeeder a b) (q : Sq) : NoFeeder a { b with sq := q } := h.trans ⟨rfl, .refl _⟩

theorem withMq (h : NoFeeder a b) (m : Mq) : NoFeeder a { b with mq := m } := h.trans ⟨rfl, .refl _⟩

theorem carryOn (h : NoFeeder a b) (e : Env) : NoFeeder a (carryOn e b) :=
  h.trans ⟨carryOn_feeders e b, ((FeederEvents.refl b).carryOn e).po⟩

theorem beginEntry (h : NoFeeder a b) (e : Env) : NoFeeder a (beginEntry e b) :=
  h.trans ⟨beginEntry_feeders e b, ((FeederEvents.refl b).beginEntry e).po⟩

theorem setLowVoltage (h : NoFeeder a b) (e : Env) (sec : Nat) (on : Bool) : NoFeeder a (setLowVoltage e sec on b) :=
  h.trans ⟨setLowVoltage_feeders e sec on b, ((FeederEvents.refl b).setLowVoltage e sec on).po⟩

theorem runMonitor (h : NoFeeder a b) (e : Env) (i : Nat) (x : Sample) : NoFeeder a (runMonitor e i x b) := by
  unfold Machine.runMonitor
  split
  · exact h
  next en _ =>
    refine .ite h ?_
    have k := h.withSq
    dsimp only
    split
    · split
      · exact (k _).say e _
      · exact ((k _).say e _).setLowVoltage e _ true
    · split
      · exact (k _).say e _
      · exact ((k _).say e _).setLowVoltage e _ false
    · exact k _

theorem recordSample (h : NoFeeder a b) (e : Env) (en : ScanEntry) (x : Sample) : NoFeeder a (recordSample e en x b) :=
  .ite (.ite (((h.withMq _).withMq _).say e _) (h.withMq _)) h

theorem completeEntry (h : NoFeeder a b) (e : Env) (en : ScanEntry) : NoFeeder a (completeEntry e en b) :=
  .ite ((h.withSq _).carryOn e) (.ite (((h.withSq _).say e _).carryOn e)
    (.ite ((h.withSq _).beginEntry e) ((h.withSq _).carryOn e)))

end NoFeeder

/-! ## The live-on-isolated arming (R104) -/

/-- The same record but for its live-on-isolated arming, which follows its section (R104). -/
def Alike (x y : Feeder) : Prop := y = { x with liveArmed := y.liveArmed }

theorem Alike.refl (x : Feeder) : Alike x x := rfl

theorem Alike.arm (x : Feeder) (armed : Bool) : Alike x { x with liveArmed := armed } := rfl

theorem Alike.trans {x y z : Feeder} (h : Alike x y) (k : Alike y z) : Alike x z := by
  unfold Alike at *; rw [k, h]

theorem Alike.step {x y : Feeder} (h : Alike x y) : FeederStep x y := by
  rw [h]; exact .same rfl rfl rfl rfl rfl rfl rfl rfl

/-- Every feeder stands as it did, but for its live-on-isolated arming. -/
def AllAlike (b c : Blocks) : Prop := ∀ f, Kept Alike (b.feeder? f) (c.feeder? f)

theorem AllAlike.refl (b : Blocks) : AllAlike b b := fun _ => Machine.Kept.refl .refl _

theorem AllAlike.trans {a b c : Blocks} (h : AllAlike a b) (k : AllAlike b c) : AllAlike a c :=
  fun f => Machine.Kept.trans .trans (h f) (k f)

theorem AllAlike.same {a b c : Blocks} (h : AllAlike a b) (hf : c.feeders = b.feeders) : AllAlike a c :=
  fun f => by rw [show c.feeder? f = b.feeder? f by rw [Blocks.feeder?, hf]; rfl]; exact h f

theorem AllAlike.amendArm {a b : Blocks} (h : AllAlike a b) (f : Nat) (armed : Bool) :
    AllAlike a (b.amendFeeder f fun x => { x with liveArmed := armed }) :=
  h.trans (Machine.Kept.amend .refl _ f _ fun x => .arm x armed)

theorem liveCheck_alike (e : Env) (ch : Nat) (i : Sample) (b : Blocks) : AllAlike b (liveCheck e ch i b) := by
  unfold liveCheck
  split
  · exact .refl b
  next f _ =>
    split
    · exact .refl b
    next y hy =>
      have k (armed : Bool) : AllAlike b (b.setFeeder f { y with liveArmed := armed }) :=
        Machine.Kept.put .refl _ f y _ hy (.arm y armed)
      split
      · split
        · split
          · exact (k false).same rfl
          · exact .refl b
        · exact k true
      · exact .refl b

theorem liveCheck_notified (e : Env) (ch : Nat) (i : Sample) (b : Blocks) : Notified b.po (liveCheck e ch i b).po := by
  unfold liveCheck
  split
  · exact .refl _
  · split
    · exact .refl _
    · split
      · split
        · split
          · exact .place _ _
          · exact .refl _
        · exact .refl _
      · exact .refl _

/-- A sample that is not NORMAL is not judged (R104). -/
theorem liveCheck_of_not_normal (e : Env) (ch : Nat) {i : Sample} (b : Blocks) (h : i.cls ≠ .normal) :
    liveCheck e ch i b = b := by
  unfold liveCheck
  split
  · rfl
  · split
    · rfl
    · simp [h]

/-! ## The end of a walk conversion (R25) -/

/-- What a walk result does once PU has taken it: the check on an isolated section, the window monitor, the measurement record,
and the entry's completion (R25). -/
def afterSample (e : Env) (en : ScanEntry) (ch : Nat) (x : Sample) (b : Blocks) : Blocks :=
  completeEntry e en (recordSample e en x (runMonitor e b.sq.next x (liveCheck e ch x b)))

/-- The latest value of a channel written (R40). -/
def withLatest (e : Env) (ch : Nat) (x : Sample) (b : Blocks) : Blocks :=
  { b with sq := { b.sq with latest := put b.sq.latest ch ⟨x.cls, x.value, e.time⟩ } }

/-- A walk result at an entry: the latest value, PU where a feeder names the channel, and the rest. -/
theorem walkResult_of_entry (e : Env) (ch : Nat) (valid : Bool) (code : Int) {b : Blocks} {en : ScanEntry}
    (h : look b.sq.slots b.sq.next = some en) :
    walkResult e ch valid code b = afterSample e en ch (sampleAt b ch valid code)
      (match b.feederBy (·.currentCh) ch with
      | none => withLatest e ch (sampleAt b ch valid code) b
      | some f => currentSample e f (sampleAt b ch valid code) (withLatest e ch (sampleAt b ch valid code) b)) := by
  unfold walkResult Sq.entry
  rw [h]
  rfl

theorem afterSample_noFeeder (e : Env) (en : ScanEntry) (ch : Nat) (x : Sample) (b : Blocks) :
    NoFeeder (liveCheck e ch x b) (afterSample e en ch x b) :=
  (((NoFeeder.refl _).runMonitor e _ x).recordSample e en x).completeEntry e en

theorem afterSample_alike (e : Env) (en : ScanEntry) (ch : Nat) (x : Sample) (b : Blocks) :
    AllAlike b (afterSample e en ch x b) :=
  (liveCheck_alike e ch x b).same (afterSample_noFeeder e en ch x b).feeders

theorem afterSample_feeder_of_invalid (e : Env) (en : ScanEntry) (ch : Nat) {x : Sample} (b : Blocks) (h : x.cls = .invalid)
    (g : Nat) : (afterSample e en ch x b).feeder? g = b.feeder? g := by
  rw [Blocks.feeder?, (afterSample_noFeeder e en ch x b).feeders, liveCheck_of_not_normal e ch b (by simp [h])]; rfl

theorem afterSample_notified (e : Env) (en : ScanEntry) (ch : Nat) (x : Sample) (b : Blocks) :
    Notified b.po (afterSample e en ch x b).po :=
  (liveCheck_notified e ch x b).trans (afterSample_noFeeder e en ch x b).po

/-! ## The end of a conversion (R19, R20) -/

/-- The blocks as a conversion has ended: the link is free, the converter's presence noted, with its notice (R19, R20). -/
def linkFreed (presence : Vector Presence 6) (po : Po) (b : Blocks) : Blocks :=
  { b with clc := { b.clc with inFlight := none, presence := presence }, po := po }

/-- A result handed to its owner (R19, R31). -/
def handResult (e : Env) (tr : Conversion) (valid : Bool) (code : Int) (b : Blocks) : Blocks :=
  match tr.owner with
  | .walk => walkResult e tr.channel valid code b
  | .insert => insertResult e tr.channel valid code b
  | .discarded => carryOn e b

theorem setIfInBounds_of_getElem? {α : Type} {n : Nat} {v : Vector α n} {i : Nat} {x : α} (h : v[i]? = some x) :
    v.setIfInBounds i x = v := by
  ext j hj
  by_cases hij : i = j
  · subst hij
    simp only [Vector.getElem_setIfInBounds_self]
    exact (by simpa [Vector.getElem?_eq_getElem hj] using h : v[i] = x).symm
  · simp [hij]

/-- Presence is written, with a notice where it changes (R20). -/
theorem setPresence_eq (e : Env) (c : Nat) (p : Presence) (b : Blocks) :
    ∃ po, Notified b.po po ∧
      setPresence e c p b = { b with clc := { b.clc with presence := b.clc.presence.setIfInBounds c p }, po := po } := by
  unfold setPresence
  split
  next h => exact ⟨b.po, .refl _, by rw [setIfInBounds_of_getElem? h]⟩
  · exact ⟨_, .place b.po ⟨e.time, .converterFault c p⟩, rfl⟩

/-- The transaction in flight ends and its result goes to its owner (R19). -/
theorem endConversion_eq (e : Env) (tr : Conversion) (presence : Option Presence) (valid : Bool) (code : Int) (b : Blocks) :
    ∃ po, Notified b.po po ∧ endConversion e tr presence valid code b = handResult e tr valid code (linkFreed
      (match presence with
      | none => b.clc.presence
      | some p => b.clc.presence.setIfInBounds (tr.channel / 8) p) po b) := by
  cases presence with
  | none => exact ⟨b.po, .refl _, rfl⟩
  | some p =>
    obtain ⟨po, hpo, h⟩ := setPresence_eq e (converterOf tr.channel) p { b with clc := { b.clc with inFlight := none } }
    refine ⟨po, hpo, ?_⟩
    unfold endConversion
    dsimp only
    rw [h]
    rfl

theorem readAnswer_correct {bytes : List Byte} {ch : Nat} {code : Int} {valid : Bool}
    (h : CorrectAnswer bytes ch code valid) : readAnswer bytes = some (ch, code, valid) := by
  obtain ⟨hch, hok, hi, lo, c1, c0, rfl, rfl⟩ := h
  have hn : (BitVec.ofNat 8 ch).toNat = ch := by simp; omega
  cases valid
  · simp only [readAnswer, Bool.false_eq_true, if_false] at hok ⊢
    rw [if_pos ⟨hok, by decide⟩, hn]
    rfl
  · simp only [readAnswer, if_true] at hok ⊢
    rw [if_pos ⟨hok, by decide⟩, hn]
    rfl

/-- A command that ends the conversion in flight hands its result to the owner, the link free and the presence noted (R19,
R20). -/
theorem exec_of_conversionEnds {s : State} {tr : Conversion} {c : Instr} {code : Int} {valid : Bool}
    {presence : Vector Presence 6} (hrun : s.mode = .run) (hf : s.blocks.clc.inFlight = some tr)
    (h : ConversionEnds s tr c code valid presence) :
    ∃ po, Notified s.blocks.po po ∧
      exec c s = .next { s with blocks := handResult s.env tr valid code (linkFreed presence po s.blocks) } := by
  rcases h with ⟨bytes, rfl, hb, rfl⟩ | ⟨rfl, hdue, rfl, rfl, rfl⟩
  · obtain ⟨po, hpo, he⟩ := endConversion_eq s.env tr (if valid then some .present else none) valid code s.blocks
    refine ⟨po, hpo, ?_⟩
    have ht : takeAnswer bytes s.env s.blocks =
        endConversion s.env tr (if valid then some .present else none) valid code s.blocks := by
      simp [takeAnswer, hf, readAnswer_correct hb]
    have hx : exec (.converterAnswer ⟨false, bytes⟩) s = .next { s with blocks := takeAnswer bytes s.env s.blocks } :=
      congrArg Host.Outcome.next (State.inRun_run _ s hrun)
    rw [hx, ht, he]
    cases valid <;> rfl
  · obtain ⟨po, hpo, he⟩ := endConversion_eq s.env tr (some .failed) false 0 s.blocks
    refine ⟨po, hpo, ?_⟩
    have hd : tr.expiry.due s.env.time = true := decide_eq_true hdue
    have ht : conversionExpires s.env s.blocks = endConversion s.env tr (some .failed) false 0 s.blocks := by
      simp only [conversionExpires, hf, hd, if_true]
    have hx : exec .converterAnswerExpiry s = .next { s with blocks := conversionExpires s.env s.blocks } :=
      congrArg Host.Outcome.next (State.inRun_run _ s hrun)
    rw [hx, ht, he]

end Sys2Proof.Machine.Protection

namespace Sys2Proof.Machine.Protection

open Sys2Proof Sys2Proof.Machine

variable {b : Blocks}

/-! ## A current sample (R44) -/

theorem setFeeder_setFeeder (b : Blocks) (f : Nat) (x y : Feeder) :
    (b.setFeeder f x).setFeeder f y = b.setFeeder f y := by
  simp [Blocks.setFeeder, put]

theorem amendFeeder_of_feeder {f : Nat} {x : Feeder} (h : b.feeder? f = some x) (g : Feeder → Feeder) :
    b.amendFeeder f g = b.setFeeder f (g x) := by
  have h' : look b.feeders f = some x := h
  simp [Blocks.amendFeeder, amend, h', Blocks.setFeeder]

/-- θ after a sample (R47). -/
def nextTheta (x : Feeder) (i : Sample) : Int := thermalStep x.conn.settings.k x.pu.theta i.value

/-- A feeder's record once PU has counted and pushed a sample that carries a value, and moved θ (R44 steps 2 and 3). -/
def sampled (e : Env) (x : Feeder) (i : Sample) : Feeder :=
  { x with pu := { Pu.takeSample e x i x.pu with
    theta := nextTheta x i, alarmArmed := decide (nextTheta x i < x.conn.settings.thetaAlarm) } }

/-- The blocks with that record, THERMAL_ALARM given where θ has reached θ_alarm over an ARMED arming (R48). -/
def withSampled (e : Env) (f : Nat) (x : Feeder) (i : Sample) (b : Blocks) : Blocks :=
  if ¬ nextTheta x i < x.conn.settings.thetaAlarm ∧ x.pu.alarmArmed = true then
    say e (.thermalAlarm f (nextTheta x i) x.conn.settings.thetaAlarm) (b.setFeeder f (sampled e x i))
  else b.setFeeder f (sampled e x i)

theorem withSampled_feeders (e : Env) (f : Nat) (x : Feeder) (i : Sample) (b : Blocks) :
    (withSampled e f x i b).feeders = (b.setFeeder f (sampled e x i)).feeders := by
  unfold withSampled
  split <;> rfl

theorem withSampled_feeder? (e : Env) {f : Nat} {x : Feeder} (i : Sample) (hx : b.feeder? f = some x) :
    (withSampled e f x i b).feeder? f = some (sampled e x i) := by
  rw [Blocks.feeder?, withSampled_feeders]
  exact Blocks.feeder?_setFeeder_self b f x _ hx

theorem withSampled_feeder?_ne (e : Env) {f g : Nat} (x : Feeder) (i : Sample) (h : g ≠ f) :
    (withSampled e f x i b).feeder? g = b.feeder? g := by
  rw [Blocks.feeder?, withSampled_feeders]
  exact Blocks.feeder?_setFeeder_ne b f g _ h

theorem withSampled_sq (e : Env) (f : Nat) (x : Feeder) (i : Sample) (b : Blocks) :
    (withSampled e f x i b).sq = b.sq := by
  unfold withSampled
  split <;> rfl

theorem withSampled_sections (e : Env) (f : Nat) (x : Feeder) (i : Sample) (b : Blocks) :
    (withSampled e f x i b).sections = b.sections := by
  unfold withSampled
  split <;> rfl

/-- A sample that carries a value: the record, the end of COOLING below θ_alarm, the criteria (R44, R48). -/
theorem currentSample_of_value (e : Env) {f : Nat} {x : Feeder} {i : Sample} (hx : b.feeder? f = some x)
    (hi : i.cls ≠ .invalid) :
    currentSample e f i b = testCriteria e f i
      (if nextTheta x i < x.conn.settings.thetaAlarm then cooled e f (withSampled e f x i b) else withSampled e f x i b) := by
  have ha : amendPu f (Pu.takeSample e x i) b = b.setFeeder f { x with pu := Pu.takeSample e x i x.pu } :=
    amendFeeder_of_feeder hx _
  have hf := Blocks.feeder?_setFeeder_self b f x { x with pu := Pu.takeSample e x i x.pu } hx
  unfold currentSample
  rw [hx]
  simp only [hi, if_false]
  congr 1
  unfold heat
  rw [ha, hf]
  dsimp only
  rw [setFeeder_setFeeder]
  have ht : thermalStep x.conn.settings.k (Pu.takeSample e x i x.pu).theta i.value = nextTheta x i := rfl
  have hs : (Pu.takeSample e x i x.pu).alarmArmed = x.pu.alarmArmed := rfl
  rw [ht, hs]
  unfold withSampled
  by_cases hb : nextTheta x i < x.conn.settings.thetaAlarm
  · simp [hb, sampled]
  · cases x.pu.alarmArmed <;> simp [hb, sampled]

/-- A sample without a value: the invalid run alone, and from the third on DEGRADED (R45). -/
theorem currentSample_of_invalid (e : Env) {f : Nat} {x : Feeder} {i : Sample} (hx : b.feeder? f = some x)
    (hi : i.cls = .invalid) :
    currentSample e f i b =
      (let run := min 255 (x.pu.invalidRun + 1)
       let c := b.setFeeder f { x with pu := { x.pu with invalidRun := run } }
       if x.state.live ∧ 3 ≤ run then degraded e f .invalid (some i) c else c) := by
  unfold currentSample invalidSample
  rw [hx]
  simp [hi]

theorem recordsKept_testCriteria (e : Env) (f : Nat) (i : Sample) (b : Blocks) :
    RecordsKept b (testCriteria e f i b) := by
  unfold testCriteria
  split
  · exact .refl b
  next x hx =>
    refine .ite ?_ (.refl b)
    have k (p : Option StepArm × Bool) : RecordsKept b (b.setFeeder f { x with pu := { x.pu with step := p.1 } }) :=
      (RecordsKept.refl b).setFeeder hx (.same rfl rfl rfl rfl rfl rfl rfl rfl)
    dsimp only
    split
    · exact k _
    · exact (k _).takeTrip e f _ _

/-- After the record of a sample, only what belongs to Feeder Control follows: θ moves once (R47). -/
theorem currentSample_records (e : Env) {f : Nat} {x : Feeder} {i : Sample} (hx : b.feeder? f = some x)
    (hi : i.cls ≠ .invalid) : RecordsKept (withSampled e f x i b) (currentSample e f i b) := by
  rw [currentSample_of_value e hx hi]
  refine RecordsKept.trans ?_ (recordsKept_testCriteria e f i _)
  exact .ite ((RecordsKept.refl _).cooled e f) (.refl _)

theorem currentSample_records_of_invalid (e : Env) {f : Nat} {x : Feeder} {i : Sample} (hx : b.feeder? f = some x)
    (hi : i.cls = .invalid) : RecordsKept b (currentSample e f i b) := by
  rw [currentSample_of_invalid e hx hi]
  have k (n : Nat) : RecordsKept b (b.setFeeder f { x with pu := { x.pu with invalidRun := n } }) :=
    (RecordsKept.refl b).setFeeder hx (.same rfl rfl rfl rfl rfl rfl rfl rfl)
  exact .ite ((k _).degraded e f _ _) (k _)

/-! ## The range of θ (R47) -/

/-- S of a value within the clamp lies in the range of θ. -/
theorem heating_bounds {i : Int} (h₁ : -12000 ≤ i) (h₂ : i ≤ 12000) : 0 ≤ heating i ∧ heating i ≤ 35156 := by
  have lo : 0 ≤ i * i := mul_self_nonneg i
  have hi : i * i ≤ 12000 * 12000 := by nlinarith
  unfold heating
  omega

/-- θ moves toward S and not past it. -/
theorem thermalStep_bounds (k : Nat) {theta i : Int} (h : 0 ≤ theta ∧ theta ≤ 35156) (h₁ : -12000 ≤ i) (h₂ : i ≤ 12000) :
    0 ≤ thermalStep k theta i ∧ thermalStep k theta i ≤ 35156 := by
  obtain ⟨s₁, s₂⟩ := heating_bounds h₁ h₂
  have hp : (1 : Int) ≤ 2 ^ k := one_le_pow₀ (by norm_num)
  unfold thermalStep
  generalize heating i = q at *
  rcases le_total theta q with hq | hq
  · have d₁ : 0 ≤ (q - theta) / 2 ^ k := Int.ediv_nonneg (by omega) (by omega)
    have d₂ : (q - theta) / 2 ^ k ≤ q - theta := Int.ediv_le_self _ (by omega)
    omega
  · have d₁ : q - theta ≤ (q - theta) / 2 ^ k := by
      rw [Int.le_ediv_iff_mul_le (by omega)]
      nlinarith
    have d₂ : (q - theta) / 2 ^ k ≤ 0 := by
      have := Int.ediv_le_ediv (a := q - theta) (b := 0) (c := 2 ^ k) (by omega) (by omega)
      simpa using this
    omega

/-- Every thermal value of the blocks lies in its range (R47). -/
def Cool (b : Blocks) : Prop := ∀ f x, b.feeder? f = some x → 0 ≤ x.pu.theta ∧ x.pu.theta ≤ 35156

theorem ThermalKept.cool {b c : Blocks} (h : ThermalKept b c) (hb : Cool b) : Cool c := by
  intro f y hy
  have hf := h f
  rw [hy] at hf
  obtain ⟨x, hx, hs⟩ := kept_some_right hf
  rw [hs.1]
  exact hb f x hx

theorem cool_of_feeders {b c : Blocks} (hb : Cool b) (h : c.feeders = b.feeders) : Cool c :=
  ((ThermalKept.refl b).same h).cool hb

theorem cool_of_records {b c : Blocks} (hb : Cool b) (h : RecordsKept b c) : Cool c :=
  ((ThermalKept.refl b).records h).cool hb

theorem cool_of_none {b : Blocks} (h : ∀ f, b.feeder? f = none) : Cool b :=
  fun f x hx => by simp [h f] at hx

theorem cool_setFeeder {f : Nat} {y : Feeder} (hb : Cool b) (hy : 0 ≤ y.pu.theta ∧ y.pu.theta ≤ 35156) :
    Cool (b.setFeeder f y) := by
  intro g x hx
  rw [Blocks.feeder?_setFeeder] at hx
  split at hx
  · obtain rfl := Option.some.inj hx; exact hy
  · exact hb g x hx

/-- The one write of θ keeps it in its range, whatever the settings (R47). -/
theorem cool_currentSample (e : Env) (f : Nat) {i : Sample} (h₁ : -12000 ≤ i.value) (h₂ : i.value ≤ 12000) (hb : Cool b) :
    Cool (currentSample e f i b) := by
  cases hx : b.feeder? f with
  | none => rw [show currentSample e f i b = b by simp [currentSample, hx]]; exact hb
  | some x =>
    by_cases hi : i.cls = .invalid
    · exact cool_of_records hb (currentSample_records_of_invalid e hx hi)
    · refine cool_of_records (cool_of_feeders (cool_setFeeder hb ?_) (withSampled_feeders e f x i b))
        (currentSample_records e hx hi)
      exact thermalStep_bounds _ (hb f x hx) h₁ h₂

theorem cool_walkResult (e : Env) (ch : Nat) (valid : Bool) (code : Int) (hb : Cool b) :
    Cool (walkResult e ch valid code b) := by
  cases he : look b.sq.slots b.sq.next with
  | none => rw [show walkResult e ch valid code b = b by simp [walkResult, Sq.entry, he]]; exact hb
  | some en =>
    rw [walkResult_of_entry e ch valid code he]
    have hl : Cool (withLatest e ch (sampleAt b ch valid code) b) := cool_of_feeders hb rfl
    refine ThermalKept.cool (fun g => Kept.mono (fun a => ⟨a.step.theta, a.step.offset⟩) (afterSample_alike _ _ _ _ _ g)) ?_
    split
    · exact hl
    · obtain ⟨h₁, h₂⟩ := classify_value_bounds (isCurrent b ch) (offsetOf b ch) valid code
      exact cool_currentSample e _ h₁ h₂ hl

/-! ## An insert's result leaves θ (R30, R36) -/

/-- The record holds the θ of `x`. -/
def SameTheta (x y : Feeder) : Prop := y.pu.theta = x.pu.theta

theorem SameTheta.refl (x : Feeder) : SameTheta x x := rfl

theorem SameTheta.trans {x y z : Feeder} (h : SameTheta x y) (k : SameTheta y z) : SameTheta x z := Eq.trans k h

/-- From `b` to `c` every feeder keeps θ. -/
def ThetaKept (b c : Blocks) : Prop := ∀ f, Kept SameTheta (b.feeder? f) (c.feeder? f)

theorem ThetaKept.trans {a b c : Blocks} (h : ThetaKept a b) (k : ThetaKept b c) : ThetaKept a c :=
  fun f => Machine.Kept.trans .trans (h f) (k f)

theorem ThetaKept.refl (b : Blocks) : ThetaKept b b := fun _ => Machine.Kept.refl .refl _

theorem thetaKept_of_records {b c : Blocks} (h : RecordsKept b c) : ThetaKept b c :=
  fun f => Kept.mono (fun s => s.theta) (h.feeders f)

theorem thetaKept_of_feeders {b c : Blocks} (h : c.feeders = b.feeders) : ThetaKept b c :=
  fun f => Kept.mono (fun s => s.1) (((ThermalKept.refl b).same h) f)

theorem thetaKept_of_alike {b c : Blocks} (h : AllAlike b c) : ThetaKept b c :=
  fun f => Kept.mono (fun a => a.step.theta) (h f)

/-- A calibration writes the offset alone (R36). -/
theorem thetaKept_deliver (e : Env) (i : Insert) (b : Blocks) : ThetaKept b (deliver e i b) := by
  unfold deliver
  split
  · unfold finishPrecheck
    split
    · exact .refl b
    · exact thetaKept_of_records ((RecordsKept.refl b).takePrecheck e _ _ _)
  · unfold finishTest
    split
    · exact .refl b
    · exact thetaKept_of_records ((RecordsKept.refl b).takeTest e _ _ _ _ _ _)
  · unfold finishCalibration
    split
    · exact thetaKept_of_feeders rfl
    · dsimp only
      split
      · exact thetaKept_of_feeders rfl
      · refine fun f => Machine.Kept.amend SameTheta.refl b.feeders _ _ (fun x => ?_) f
        exact .refl x

theorem thetaKept_completeInsert (e : Env) (i : Insert) (b : Blocks) : ThetaKept b (completeInsert e i b) :=
  (thetaKept_deliver e i b).trans
    (thetaKept_of_records ((((RecordsKept.refl _).withSq _).admitWaiter e).carryOn e))

theorem thetaKept_insertResult (e : Env) (ch : Nat) (valid : Bool) (code : Int) (b : Blocks) :
    ThetaKept b (insertResult e ch valid code b) := by
  unfold insertResult
  split
  · exact .refl b
  · have k (q : Sq) : ThetaKept b { b with sq := q } := thetaKept_of_feeders rfl
    dsimp only
    split
    · exact thetaKept_of_records (((RecordsKept.refl b).withSq _).carryOn e)
    · exact (k _).trans (thetaKept_completeInsert e _ _)

theorem cool_handResult (e : Env) (tr : Conversion) (valid : Bool) (code : Int) (hb : Cool b) :
    Cool (handResult e tr valid code b) := by
  unfold handResult
  split
  · exact cool_walkResult e _ valid code hb
  · intro f y hy
    have hf := thetaKept_insertResult e tr.channel valid code b f
    rw [hy] at hf
    obtain ⟨x, hx, ht⟩ := kept_some_right hf
    rw [ht]
    exact hb f x hx
  · exact cool_of_feeders hb (carryOn_feeders e b)

theorem cool_endConversion (e : Env) (tr : Conversion) (p : Option Presence) (valid : Bool) (code : Int) (hb : Cool b) :
    Cool (endConversion e tr p valid code b) := by
  obtain ⟨po, -, h⟩ := endConversion_eq e tr p valid code b
  rw [h]
  exact cool_handResult e tr valid code (cool_of_feeders hb rfl)

/-! ## Every command keeps θ in its range -/

theorem onFeeders_cool : OnFeeders fun b c => Cool b → Cool c :=
  ⟨fun h k hb => k (h hb), fun h hb => cool_of_feeders hb h⟩

/-- START_RUN sets every θ to 0 (R43). -/
theorem cool_startBlocks (t : NetTables) (pins : Pins) (b : Blocks) : Cool (startBlocks t pins b) := by
  intro f x hx
  have h : ∃ c r, x = Feeder.initial c r := by
    simp only [startBlocks, Blocks.feeder?, look_ofFn] at hx
    split at hx
    · obtain ⟨r, _, rfl⟩ := Option.map_eq_some_iff.1 hx
      exact ⟨_, r, rfl⟩
    · simp at hx
  obtain ⟨c, r, rfl⟩ := h
  exact ⟨le_refl 0, by norm_num [Feeder.initial, Pu.initial]⟩

theorem cool_initial (now : Time) : Cool (Blocks.initial now) :=
  cool_of_none fun f => look_replicate_none f

theorem exec_cool_of_request {i : Instr} {s t : State} (hi : ∀ p bytes, i ≠ .requestFrame p bytes) (hs : Cool s.blocks)
    (h : exec i s = .next t) : Cool t.blocks := by
  by_cases hm : MayWriteThermal i
  · rcases hm with ⟨a, rfl⟩ | rfl | rfl | ⟨p, bytes, rfl⟩ | ⟨p, tag, rfl⟩ | ⟨p, tag, rfl⟩
    · obtain rfl := Host.Outcome.next.inj h
      unfold State.inRun unlessLate
      split
      · exact hs
      · show Cool (if a.late = true then s.blocks else takeAnswer a.bytes s.env s.blocks)
        split
        · exact hs
        · unfold takeAnswer
          split
          · split
            · exact cool_endConversion _ _ _ _ _ hs
            · exact hs
          · exact hs
    · obtain rfl := Host.Outcome.next.inj h
      unfold State.inRun
      split
      · exact hs
      · show Cool (conversionExpires s.env s.blocks)
        unfold conversionExpires
        split
        · exact hs
        · split
          · exact cool_endConversion _ _ _ _ _ hs
          · exact hs
    · obtain rfl := Host.Outcome.next.inj h
      exact cool_initial _
    · exact absurd rfl (hi p bytes)
    · obtain rfl := Host.Outcome.next.inj h
      refine takeRequest_obeys onFeeders_cool p tag _ s ?_ hs
      unfold answerRestart
      split
      · exact ⟨fun s _ => cool_initial s.time, fun s hs => cool_of_feeders hs rfl⟩
      · exact .refuse onFeeders_cool _
    · obtain rfl := Host.Outcome.next.inj h
      refine takeRequest_obeys onFeeders_cool p tag _ s ?_ hs
      unfold answerStartRun
      split
      · exact .reply onFeeders_cool _ _ _
      · exact ⟨fun s hs => hs, fun s _ => cool_startBlocks _ _ _⟩
  · exact (exec_thermal hm h).cool hs

/-- A frame carries a request, and no other frame (R181). -/
theorem execRequest_eq (i : Instr) (s : State) :
    execRequest i s = .next s ∨ (execRequest i s = exec i s ∧ ∀ p bytes, i ≠ .requestFrame p bytes) := by
  cases i
  all_goals first
    | exact .inl rfl
    | exact .inr ⟨rfl, fun _ _ => nofun⟩

theorem requestFrame_cool (p : Port) (bytes : List Byte) {s t : State} (hs : Cool s.blocks)
    (h : execRequestFrame p bytes s = .next t) : Cool t.blocks := by
  unfold execRequestFrame at h
  split at h
  · obtain rfl := Host.Outcome.next.inj h; exact hs
  next fr _ =>
    split at h
    · split at h
      · obtain rfl := Host.Outcome.next.inj h
        unfold takeUnknown
        split
        · exact cool_of_feeders hs rfl
        · exact cool_of_feeders hs rfl
      next k _ =>
        split at h
        · obtain rfl := Host.Outcome.next.inj h
          exact takeRequest_obeys onFeeders_cool p _ _ s (.refuse onFeeders_cool _) hs
        next i _ =>
          rcases execRequest_eq i s with hn | ⟨hn, hi⟩
          · rw [hn] at h; obtain rfl := Host.Outcome.next.inj h; exact hs
          · rw [hn] at h; exact exec_cool_of_request hi hs h
    · obtain rfl := Host.Outcome.next.inj h
      exact cool_of_feeders hs rfl

theorem exec_cool {i : Instr} {s t : State} (hs : Cool s.blocks) (h : exec i s = .next t) : Cool t.blocks := by
  by_cases hi : ∃ p bytes, i = .requestFrame p bytes
  · obtain ⟨p, bytes, rfl⟩ := hi
    exact requestFrame_cool p bytes hs h
  · exact exec_cool_of_request (fun p bytes hpb => hi ⟨p, bytes, hpb⟩) hs h

/-- Settles O7: θ is written by a current sample, which moves it toward S and not past it, and by START_RUN, which sets it to 0;
every other command leaves it. -/
theorem stepKeepsThetaInRange : Obligations.StepKeepsThetaInRange := by
  intro s t hs h
  unfold step at h
  split at h
  · obtain rfl := Host.Outcome.next.inj h; exact hs
  next i rest _ => exact exec_cool (s := { s with pending := rest }) hs h

end Sys2Proof.Machine.Protection

namespace Sys2Proof.Machine.Protection

open Sys2Proof Sys2Proof.Machine

variable {a b c : Blocks}

/-! ## What a change of section power leaves of the points (R123) -/

/-- The fields of a point that no change of power writes: frame, counter, flags and sequence bit. -/
def lasting (x : Point) : PointRec × Nat × Bool × Bool × Bool × Bool × Bool :=
  (x.frame, x.count, x.countFault, x.blocked, x.worksHeld, x.failed, x.seqBit)

/-- The record holds these fields as `x` does. -/
def SamePoint (x y : Point) : Prop := lasting y = lasting x

theorem SamePoint.refl (x : Point) : SamePoint x x := rfl

theorem SamePoint.trans {x y z : Point} (h : SamePoint x y) (k : SamePoint y z) : SamePoint x z := Eq.trans k h

/-- From `b` to `c` every point keeps these fields. -/
def PointsLast (b c : Blocks) : Prop := ∀ pt, Kept SamePoint (b.point? pt) (c.point? pt)

namespace PointsLast

theorem refl (b : Blocks) : PointsLast b b := fun _ => Machine.Kept.refl .refl _

theorem trans (h : PointsLast a b) (k : PointsLast b c) : PointsLast a c :=
  fun pt => Machine.Kept.trans .trans (h pt) (k pt)

theorem same (h : PointsLast a b) (hp : c.points = b.points) : PointsLast a c :=
  fun pt => by rw [show c.point? pt = b.point? pt by rw [Blocks.point?, hp]; rfl]; exact h pt

theorem say (h : PointsLast a b) (e : Env) (n : NoticeBody) : PointsLast a (say e n b) := h.same rfl

theorem enqueue (h : PointsLast a b) (pt : Nat) : PointsLast a (enqueue pt b) := h.same rfl

theorem unqueue (h : PointsLast a b) (pt : Nat) : PointsLast a (unqueue pt b) := h.same rfl

theorem setPoint (h : PointsLast a b) {pt : Nat} {x y : Point} (hx : b.point? pt = some x) (hy : SamePoint x y) :
    PointsLast a (b.setPoint pt y) :=
  h.trans (Machine.Kept.put .refl _ _ _ _ hx hy)

theorem ite {p : Prop} [Decidable p] (h : PointsLast a b) (k : PointsLast a c) : PointsLast a (if p then b else c) := by
  split <;> assumption

/-- A drive that ends without a failing result sets no FAILED (R118). -/
theorem endDrive (h : PointsLast a b) (e : Env) (pt : Nat) (resync : Bool) {r : DriveResult} (hr : r.failing = false) :
    PointsLast a (endDrive e pt resync r b) := by
  unfold Machine.endDrive
  split
  · exact h
  next x hx =>
    have k (w : DriveWork) : PointsLast a (b.setPoint pt { x with
        drive := .idle, target := none, lastResult := some r, failed := x.failed || r.failing,
        link := { x.link with work := w, tPoint := none } }) :=
      h.setPoint hx (by simp [SamePoint, lasting, hr])
    exact .ite (.say (.ite ((k _).unqueue pt) (k _)) e _) (.ite ((k _).unqueue pt) (k _))

theorem headWaiting (x : Point) : SamePoint x x.headWaiting := by
  unfold Point.headWaiting
  split <;> rfl

theorem headService (h : PointsLast a b) (e : Env) (pt : Nat) : PointsLast a (headService e pt b) := by
  unfold Machine.headService
  split
  · exact h
  next x hx =>
    have k {y : Point} (hy : SamePoint x y) : PointsLast a (b.setPoint pt y) := h.setPoint hx hy
    split
    · exact k ((headWaiting x).trans rfl)
    · split
      · exact k rfl
      · refine .ite (k rfl) (.ite (PointsLast.say (k ?_) e _) (.ite (k rfl) (.ite (k rfl) (.ite (k rfl) ?_))))
        · rfl
        · dsimp only
          split
          · refine PointsLast.enqueue (k ?_) pt
            rfl
          · exact k rfl
          · exact k rfl

theorem expireOverdue (h : PointsLast a b) (e : Env) (pt : Nat) : PointsLast a (expireOverdue e pt b) := by
  unfold Machine.expireOverdue
  split
  · exact h
  next x hx =>
    split
    · exact h
    · refine .ite (PointsLast.say (h.setPoint hx ?_) e _) h
      rfl

theorem settlePoint (h : PointsLast a b) (e : Env) (pt : Nat) : PointsLast a (settlePoint e pt b) := by
  unfold Machine.settlePoint
  have h' := h.expireOverdue e pt
  dsimp only
  split
  · exact h'
  · split
    · exact .ite ((h'.endDrive e pt _ rfl).headService e pt) h'
    · exact h'
    · exact h'
    · exact h'.headService e pt

theorem endPointEvent (h : PointsLast a b) (e : Env) (pt : Nat) (before : Option (Point × Contact × Contact)) :
    PointsLast a (endPointEvent e pt before b) := by
  unfold Machine.endPointEvent
  have h' := h.settlePoint e pt
  dsimp only
  split
  · exact h'
  · split
    · exact h'
    · exact h'.say e _

theorem sectionPower (h : PointsLast a b) (e : Env) (sec : Nat) : PointsLast a (sectionPower e sec b) := by
  unfold Machine.sectionPower
  induction e.pointsOf sec generalizing b with
  | nil => exact h
  | cons pt pts ih =>
    refine ih (endPointEvent ?_ e pt _)
    dsimp only
    split
    · exact h
    · exact .ite (h.endDrive e pt _ rfl) h

end PointsLast

theorem handTelegram_points (e : Env) (t : TxTelegram) (b : Blocks) : (handTelegram e t b).points = b.points := by
  unfold handTelegram
  split
  · rfl
  · split
    · rfl
    · split
      · rfl
      · split <;> rfl

/-! ## What follows a change of a feeder's state (R66 steps 2 to 4) -/

/-- From `b` to `c` nothing of Feeder Control is written: every feeder stands, its live-on-isolated arming apart, the slot wait
list is as it was, and points keep what no change of power writes. -/
structure Settles (b c : Blocks) : Prop where
  alike : AllAlike b c
  waiting : c.sq.waiting = b.sq.waiting
  points : PointsLast b c

namespace Settles

theorem refl (b : Blocks) : Settles b b := ⟨.refl b, rfl, .refl b⟩

theorem trans (h : Settles a b) (k : Settles b c) : Settles a c :=
  ⟨h.alike.trans k.alike, k.waiting.trans h.waiting, h.points.trans k.points⟩

/-- Whatever writes no feeder, no point and not the slot wait list. -/
theorem same (h : Settles a b) (hf : c.feeders = b.feeders) (hp : c.points = b.points)
    (hw : c.sq.waiting = b.sq.waiting) : Settles a c :=
  ⟨h.alike.same hf, hw.trans h.waiting, h.points.same hp⟩

theorem ite {p : Prop} [Decidable p] (h : Settles a b) (k : Settles a c) : Settles a (if p then b else c) := by
  split <;> assumption

theorem say (h : Settles a b) (e : Env) (n : NoticeBody) : Settles a (say e n b) := h.same rfl rfl rfl

theorem sayAll (h : Settles a b) (e : Env) (ns : List NoticeBody) : Settles a (sayAll e ns b) := by
  unfold Machine.sayAll
  induction ns generalizing b with
  | nil => exact h
  | cons n ns ih => exact ih (h.say e n)

theorem sayFeeder (h : Settles a b) (e : Env) (f : Nat) : Settles a (sayFeeder e f b) := by
  unfold Machine.sayFeeder
  split
  · exact h
  · exact h.say e _

theorem setLeader (h : Settles a b) (sec : Nat) (l : Option Nat) : Settles a (setLeader sec l b) := h.same rfl rfl rfl

theorem handTelegram (h : Settles a b) (e : Env) (t : TxTelegram) : Settles a (handTelegram e t b) :=
  have k := (PointEvents.refl b).handTelegram e t
  h.same k.feeders (handTelegram_points e t b) (by rw [k.sq])

theorem sectionPower (h : Settles a b) (e : Env) (sec : Nat) : Settles a (sectionPower e sec b) :=
  have k := (PointEvents.refl b).sectionPower e sec
  h.trans ⟨(AllAlike.refl b).same k.feeders, by rw [k.sq], (PointsLast.refl b).sectionPower e sec⟩

theorem saySection (h : Settles a b) (e : Env) (sec : Nat) : Settles a (saySection e sec b) := by
  unfold Machine.saySection
  split
  · exact h
  · exact h.say e _

theorem broadcast (h : Settles a b) (e : Env) (sec : Nat) (old new : SectionState) :
    Settles a (broadcast e sec old new b) :=
  .ite (h.handTelegram e _) (.ite (h.handTelegram e _) h)

theorem clearMonitor (h : Settles a b) (sec : Nat) : Settles a (clearMonitor sec b) := by
  unfold Machine.clearMonitor
  split
  · exact h
  · exact h.same rfl rfl rfl

theorem setSection (h : Settles a b) (sec : Nat) (x : SectionRec) : Settles a (b.setSection sec x) := h.same rfl rfl rfl

theorem armSection (h : Settles a b) (e : Env) (sec : Nat) : Settles a (armSection e sec b) := by
  unfold Machine.armSection
  induction e.feedersOf sec generalizing b with
  | nil => exact h
  | cons f fs ih => exact ih (h.trans ⟨(AllAlike.refl b).amendArm f true, rfl, (PointsLast.refl b).same rfl⟩)

theorem deriveSection (h : Settles a b) (e : Env) (sec : Nat) : Settles a (deriveSection e sec b) := by
  unfold Machine.deriveSection
  split
  · exact h
  · refine .ite h (sectionPower (broadcast (saySection ?_ e sec) e sec _ _) e sec)
    have k (y : SectionRec) {p : Prop} [Decidable p] :
        Settles a ((if p then Machine.clearMonitor sec b else b).setSection sec y) :=
      Settles.setSection (.ite (h.clearMonitor sec) h) sec y
    exact .ite ((k _).armSection e sec) (k _)

theorem decidePermits (h : Settles a b) (e : Env) (sec : Nat) : Settles a (decidePermits e sec b) := by
  unfold Machine.decidePermits
  induction b.permits.filter fun p => decide (sec ∈ p.secs) generalizing b with
  | nil => exact h
  | cons p ps ih => exact ih (.ite h (h.same rfl rfl rfl))

theorem feederChanged (h : Settles a b) (e : Env) (sec : Nat) : Settles a (feederChanged e sec b) :=
  (h.deriveSection e sec).decidePermits e sec

end Settles

/-! ## A change of one feeder (R66, R69, R81) -/

/-- The record of feeder `f` as a change to `new` leaves it (R66 step 1, R81). -/
def moved (e : Env) (b : Blocks) (f : Nat) (new : FeederState) (set : Feeder → Feeder) (x : Feeder) : Feeder :=
  { set (x.enter e new) with
    role := if new.endsSequence && decide (b.leader x.conn.sec = some f) then .none else (set (x.enter e new)).role }

theorem moveFeeder_settles (e : Env) {f : Nat} (new : FeederState) (set : Feeder → Feeder) (ns : List NoticeBody) {x : Feeder}
    (hx : b.feeder? f = some x) :
    Settles (b.setFeeder f (moved e b f new set x)) (moveFeeder e f new set ns b) := by
  unfold moveFeeder
  rw [hx]
  have k {p : Prop} [Decidable p] (sec : Nat) :
      Settles (b.setFeeder f (moved e b f new set x))
        (sayFeeder e f (sayAll e ns (if p then setLeader sec none (b.setFeeder f (moved e b f new set x))
          else b.setFeeder f (moved e b f new set x)))) :=
    ((Settles.ite ((Settles.refl _).setLeader sec none) (.refl _)).sayAll e ns).sayFeeder e f
  exact .ite (k _) ((k _).feederChanged e _)

theorem moveFeeder_of_none (e : Env) {f : Nat} (new : FeederState) (set : Feeder → Feeder) (ns : List NoticeBody)
    (hx : b.feeder? f = none) : moveFeeder e f new set ns b = b := by
  simp [moveFeeder, hx]

/-- The feeder that changes stands as `moved` gives it. -/
theorem moveFeeder_feeder (e : Env) {f : Nat} (new : FeederState) (set : Feeder → Feeder) (ns : List NoticeBody) {x : Feeder}
    (hx : b.feeder? f = some x) :
    ∃ y, (moveFeeder e f new set ns b).feeder? f = some y ∧ Alike (moved e b f new set x) y := by
  have h := (moveFeeder_settles e new set ns hx).alike f
  rw [Blocks.feeder?_setFeeder_self b f x _ hx] at h
  exact kept_some h

theorem moveFeeder_waiting (e : Env) (f : Nat) (new : FeederState) (set : Feeder → Feeder) (ns : List NoticeBody)
    (b : Blocks) : (moveFeeder e f new set ns b).sq.waiting = b.sq.waiting := by
  cases hx : b.feeder? f with
  | none => rw [moveFeeder_of_none e new set ns hx]
  | some x => rw [(moveFeeder_settles e new set ns hx).waiting]; rfl

/-! ## What Feeder Control leaves of the feeders it does not name -/

/-- No request of feeder `f` waits for an insert place (R29). -/
def Apart (f : Nat) (b : Blocks) : Prop := ∀ w ∈ b.sq.waiting, w.feeder ≠ f

/-- PU's values but for those that a change of state writes: ring, step state and stale timer (R46, R54, R55). -/
def SamePu (x y : Feeder) : Prop := y.pu = { x.pu with ring := y.pu.ring, step := y.pu.step, stale := y.pu.stale }

theorem SamePu.refl (x : Feeder) : SamePu x x := rfl

theorem SamePu.trans {x y z : Feeder} (h : SamePu x y) (k : SamePu y z) : SamePu x z := by
  unfold SamePu at *; rw [k, h]

theorem Alike.samePu {x y : Feeder} (h : Alike x y) : SamePu x y := by rw [h]; rfl

/-- From `b` to `c` Feeder Control has acted on feeders of `S` and on such as waited for an insert place: every other feeder
stands, its live-on-isolated arming apart, and waits no more than before; PU's values, and what no change of power writes of a
point, stand everywhere. -/
structure ActsOn (S : Nat → Prop) (b c : Blocks) : Prop where
  others : ∀ g, ¬ S g → Apart g b → Kept Alike (b.feeder? g) (c.feeder? g) ∧ Apart g c
  pu : ∀ g, Kept SamePu (b.feeder? g) (c.feeder? g)
  points : PointsLast b c

namespace ActsOn

variable {S : Nat → Prop}

theorem refl (b : Blocks) : ActsOn S b b :=
  ⟨fun _ _ h => ⟨Machine.Kept.refl .refl _, h⟩, fun _ => Machine.Kept.refl .refl _, .refl b⟩

theorem trans (h : ActsOn S a b) (k : ActsOn S b c) : ActsOn S a c where
  others g hg ha :=
    have ⟨h₁, h₂⟩ := h.others g hg ha
    have ⟨k₁, k₂⟩ := k.others g hg h₂
    ⟨Machine.Kept.trans .trans h₁ k₁, k₂⟩
  pu g := Machine.Kept.trans .trans (h.pu g) (k.pu g)
  points := h.points.trans k.points

theorem ite {p : Prop} [Decidable p] (h : ActsOn S a b) (k : ActsOn S a c) : ActsOn S a (if p then b else c) := by
  split <;> assumption

theorem settles (h : ActsOn S a b) (k : Settles b c) : ActsOn S a c :=
  h.trans ⟨fun g _ hg => ⟨k.alike g, by unfold Apart; rw [k.waiting]; exact hg⟩, fun g => Kept.mono Alike.samePu (k.alike g),
    k.points⟩

/-- Whatever writes no feeder, no point and not the slot wait list. -/
theorem same (h : ActsOn S a b) (hf : c.feeders = b.feeders) (hp : c.points = b.points)
    (hw : c.sq.waiting = b.sq.waiting) : ActsOn S a c :=
  h.settles ((Settles.refl b).same hf hp hw)

theorem setFeeder (h : ActsOn S a b) {f : Nat} {x y : Feeder} (hS : S f) (hx : b.feeder? f = some x) (hy : SamePu x y) :
    ActsOn S a (b.setFeeder f y) := by
  refine h.trans ⟨fun g hg ha => ⟨?_, ha⟩, Machine.Kept.put .refl _ _ _ _ hx hy, (PointsLast.refl b).same rfl⟩
  rw [Blocks.feeder?_setFeeder_ne b f g y fun hgf => hg (hgf ▸ hS)]
  exact Machine.Kept.refl .refl _

/-- The fields that a transition sets besides the state are none of PU's. -/
theorem moveFeeder (h : ActsOn S a b) (e : Env) {f : Nat} (new : FeederState) {set : Feeder → Feeder}
    (hset : ∀ x, SamePu x (set x)) (ns : List NoticeBody) (hS : S f) : ActsOn S a (moveFeeder e f new set ns b) := by
  cases hx : b.feeder? f with
  | none => rw [moveFeeder_of_none e new set ns hx]; exact h
  | some x =>
    refine (h.setFeeder hS hx ?_).settles (moveFeeder_settles e new set ns hx)
    exact SamePu.trans (y := x.enter e new) rfl (hset (x.enter e new))

theorem giveRole (h : ActsOn S a b) (e : Env) {f : Nat} (c : Cause) (hS : S f) : ActsOn S a (giveRole e f c b) := by
  unfold Machine.giveRole
  split
  · exact h
  next x hx =>
    have k (r : RecloseRole) : ActsOn S a (b.setFeeder f { x with role := r }) := h.setFeeder hS hx rfl
    exact .ite h (.ite ((k _).settles ((Settles.refl _).setLeader _ _)) (k _))

theorem enterTripping (h : ActsOn S a b) (e : Env) {f : Nat} (c : Cause) (mark : Bool) (i : Option Sample)
    (ns : List NoticeBody) (hS : S f) : ActsOn S a (enterTripping e f c mark i ns b) :=
  (h.giveRole e c hS).moveFeeder e _ (by exact fun _ => rfl) _ hS

theorem freshDeadTime (h : ActsOn S a b) (e : Env) {f : Nat} {set : Feeder → Feeder} (hset : ∀ x, SamePu x (set x))
    (ns : List NoticeBody) (hS : S f) : ActsOn S a (freshDeadTime e f set ns b) := by
  unfold Machine.freshDeadTime
  split
  · exact h
  · exact h.moveFeeder e _ hset _ hS

theorem finishTrip (h : ActsOn S a b) (e : Env) {f : Nat} (c : Cause) (ns : List NoticeBody) (hS : S f) :
    ActsOn S a (finishTrip e f c ns b) := by
  unfold Machine.finishTrip
  split
  · exact h
  · have k (st : FeederState) (c' : Cause) := h.moveFeeder e st (f := f)
      (set := fun y => { withCause c' y with closeOntoFault := false }) (by exact fun _ => rfl) ns hS
    exact .ite ((k _ _).freshDeadTime e (by exact fun _ => rfl) _ hS) (k _ _)

theorem completeTrip (h : ActsOn S a b) (e : Env) {f : Nat} (hS : S f) : ActsOn S a (completeTrip e f b) := by
  unfold Machine.completeTrip
  split
  · exact h
  · exact .ite (h.finishTrip e _ _ hS) h

/-- SQ carries on: no feeder is written, and nothing waits anew. -/
theorem carryOn (h : ActsOn S a b) (e : Env) : ActsOn S a (carryOn e b) := by
  have k {c : Blocks} (hc : ActsOn S a c) (ch : Nat) (o : ConversionOwner) (q : Sq) (hq : q.waiting = c.sq.waiting) :
      ActsOn S a (convert e ch o { c with sq := q }) := hc.same rfl rfl hq
  have entry {c : Blocks} (hc : ActsOn S a c) : ActsOn S a (convertEntry e c) := by
    unfold convertEntry
    split
    · exact hc
    · exact k hc _ _ _ rfl
  have insert : ActsOn S a (convertInsert e b) := by
    unfold convertInsert
    split
    · exact h
    · exact k h _ _ _ rfl
  unfold Machine.carryOn
  refine .ite ?_ h
  split
  · exact h
  · exact .ite (entry h) h
  · exact insert
  · exact insert
  · refine .ite insert ?_
    unfold beginEntry
    split
    · exact h
    · have begun (m : SqMode) (t : Option Timer) : ActsOn S a { b with sq := { b.sq with mode := m, settle := t } } :=
        h.same rfl rfl rfl
      exact .ite (entry (begun _ _)) (begun _ _)

theorem enterInsert (h : ActsOn S a b) (e : Env) (k : InsertKind) (who : Nat) : ActsOn S a (enterInsert e k who b) := by
  have k (is : List Insert) (sv : Bool) : ActsOn S a { b with sq := { b.sq with inserts := is, serving := sv } } :=
    h.same rfl rfl rfl
  exact .ite ((k _ _).carryOn e) (k _ _)

theorem askInsert (h : ActsOn S a b) (e : Env) (k : InsertKind) {f : Nat} (hS : S f) : ActsOn S a (askInsert e k f b) := by
  refine .ite (h.enterInsert e k f) (h.trans ⟨fun g hg ha => ⟨Machine.Kept.refl .refl _, fun w hw => ?_⟩,
    fun g => Machine.Kept.refl .refl _, (PointsLast.refl b).same rfl⟩)
  rcases List.mem_append.1 hw with hw | hw
  · exact ha w hw
  · rw [List.mem_singleton.1 hw]
    exact fun hfg => hg (hfg ▸ hS)

/-- Requests that leave the slot wait list leave the others where they wait. -/
theorem withWaiting (h : ActsOn S a b) (q : Sq) (hq : ∀ w ∈ q.waiting, w ∈ b.sq.waiting) :
    ActsOn S a { b with sq := q } :=
  h.trans ⟨fun _ _ ha => ⟨Machine.Kept.refl .refl _, fun w hw => ha w (hq w hw)⟩, fun _ => Machine.Kept.refl .refl _,
    (PointsLast.refl b).same rfl⟩

/-- The head of the slot wait list leaves it, and its feeder the waiting sub-phase: no feeder that waits not (R29). -/
theorem admitWaiter (h : ActsOn S a b) (e : Env) : ActsOn S a (admitWaiter e b) := by
  unfold Machine.admitWaiter
  split
  · exact h
  next w ws hw =>
    have k : ActsOn (fun g => g = w.feeder) b (Machine.moveFeeder e w.feeder
        (.lineTest (if w.kind = .test then .test else .precheck)) id []
        (Machine.enterInsert e w.kind w.feeder { b with sq := { b.sq with waiting := ws } })) :=
      (((ActsOn.refl b).withWaiting { b.sq with waiting := ws }
        (by rw [hw]; exact fun _ => List.mem_cons_of_mem w)).enterInsert e _ _).moveFeeder e _ (by exact fun _ => rfl) _ rfl
    refine h.trans ⟨fun g _ ha => k.others g ?_ ha, k.pu, k.points⟩
    rintro rfl
    exact ha w (by rw [hw]; exact List.mem_cons_self) rfl

theorem withdrawInsert (h : ActsOn S a b) (e : Env) (f : Nat) : ActsOn S a (withdrawInsert e f b) := by
  unfold Machine.withdrawInsert
  split
  · exact h.withWaiting _ fun w hw => List.mem_of_mem_filter hw
  · split
    · exact h
    · have k (is : List Insert) (sv : Bool) (c : Clc) :
          ActsOn S a { b with sq := { b.sq with inserts := is, serving := sv }, clc := c } := h.same rfl rfl rfl
      exact .ite (((k _ _ _).admitWaiter e).carryOn e) (.ite ((k _ _ b.clc).admitWaiter e) h)

theorem enterLineTest (h : ActsOn S a b) (e : Env) {f : Nat} {set : Feeder → Feeder} (hset : ∀ x, SamePu x (set x))
    (hS : S f) : ActsOn S a (enterLineTest e f set b) :=
  (h.moveFeeder e _ hset _ hS).askInsert e _ hS

theorem leaveSequence (h : ActsOn S a b) (e : Env) {f : Nat} (new : FeederState) {set : Feeder → Feeder}
    (hset : ∀ x, SamePu x (set x)) (ns : List NoticeBody) (hS : S f) : ActsOn S a (leaveSequence e f new set ns b) :=
  (h.moveFeeder e _ hset _ hS).withdrawInsert e f

theorem followerLosesLeader (h : ActsOn S a b) (e : Env) {g : Nat} {y : Feeder} (hy : b.feeder? g = some y) (hS : S g) :
    ActsOn S a (followerLosesLeader e g y b) := by
  unfold Machine.followerLosesLeader
  split
  · exact h.leaveSequence e _ (by exact fun _ => rfl) _ hS
  · exact h.leaveSequence e _ (by exact fun _ => rfl) _ hS
  · exact h.leaveSequence e _ (by exact fun _ => rfl) _ hS
  · exact .ite h (h.setFeeder hS hy rfl)
  · exact h.setFeeder hS hy rfl
  · exact h.setFeeder hS hy rfl
  iterate 4 exact h

/-- R81 acts on the partner. -/
theorem partnerConsequence (h : ActsOn S a b) (e : Env) {f : Nat} (hS : ∀ g, e.partner f = some g → S g) :
    ActsOn S a (partnerConsequence e f b) := by
  unfold Machine.partnerConsequence
  split
  next x g _ hg =>
    split
    · exact h
    next y hy =>
      exact .ite (.ite (h.followerLosesLeader e hy (hS g hg)) (.ite (h.enterLineTest e (by exact fun _ => rfl) (hS g hg)) h)) h
  · exact h

theorem settleTrip (h : ActsOn S a b) (e : Env) {f : Nat} (hf : S f) (hS : ∀ g, e.partner f = some g → S g) :
    ActsOn S a (settleTrip e f b) :=
  .ite ((h.completeTrip e hf).partnerConsequence e hS) h

/-- Wherever a trip acts, PU's values and what no change of power writes of a point stand. -/
theorem takeTrip (e : Env) (f : Nat) (c : Cause) (i : Option Sample) (b : Blocks) :
    ActsOn (fun _ => True) b (takeTrip e f c i b) := by
  have trip {c : Blocks} (hc : ActsOn (fun _ => True) b c) (g : Nat) (why : Cause) :
      ActsOn (fun _ => True) b (tripLive e g why c) := by
    unfold tripLive
    split
    · exact hc
    · exact .ite ((hc.enterTripping e why _ _ _ trivial).settleTrip e trivial fun _ _ => trivial) hc
  unfold Machine.takeTrip
  split
  · exact .refl b
  · have k (mark : Bool) := (ActsOn.refl (S := fun _ => True) b).enterTripping e c mark i [] (f := f) trivial
    refine .ite (settleTrip ?_ e trivial fun _ _ => trivial) (.refl b)
    split
    · exact k _
    · exact trip (k _) _ _

end ActsOn

end Sys2Proof.Machine.Protection

namespace Sys2Proof.Machine.Protection

open Sys2Proof Sys2Proof.Machine

variable {b : Blocks}

/-! ## What follows the record of a sample -/

theorem ActsOn.cooled {S : Nat → Prop} {a : Blocks} (h : ActsOn S a b) (e : Env) {f : Nat} (hS : S f) :
    ActsOn S a (cooled e f b) := by
  unfold Machine.cooled deadTimeEnds
  refine .ite ?_ h
  split
  · exact h
  · exact .ite (h.moveFeeder e _ (by exact fun _ => rfl) _ hS) (h.enterLineTest e (by exact fun _ => rfl) hS)

theorem testCriteria_acts (e : Env) (f : Nat) (i : Sample) (b : Blocks) :
    ActsOn (fun _ => True) b (testCriteria e f i b) := by
  unfold testCriteria
  split
  · exact .refl b
  next x hx =>
    refine .ite ?_ (.refl b)
    have k (p : Option StepArm × Bool) :
        ActsOn (fun _ => True) b (b.setFeeder f { x with pu := { x.pu with step := p.1 } }) :=
      (ActsOn.refl b).setFeeder trivial hx rfl
    dsimp only
    split
    · exact k _
    · exact (k _).trans (ActsOn.takeTrip e f _ _ _)

/-- After the record of a sample every value of PU that no change of state writes stands. -/
theorem currentSample_acts (e : Env) {f : Nat} {x : Feeder} {i : Sample} (hx : b.feeder? f = some x)
    (hi : i.cls ≠ .invalid) : ActsOn (fun _ => True) (withSampled e f x i b) (currentSample e f i b) := by
  rw [currentSample_of_value e hx hi]
  exact (ActsOn.ite ((ActsOn.refl _).cooled e trivial) (.refl _)).trans (testCriteria_acts e f i _)

theorem testCriteria_notified (e : Env) (f : Nat) (i : Sample) (b : Blocks) :
    Notified b.po (testCriteria e f i b).po := by
  unfold testCriteria
  split
  · exact .refl _
  · split
    · dsimp only
      split
      · exact .refl _
      · exact (((FeederEvents.refl b).setFeeder f _).takeTrip e f _ _).po
    · exact .refl _

theorem currentSample_notified (e : Env) {f : Nat} {x : Feeder} {i : Sample} (hx : b.feeder? f = some x)
    (hi : i.cls ≠ .invalid) : Notified (withSampled e f x i b).po (currentSample e f i b).po := by
  rw [currentSample_of_value e hx hi]
  refine Notified.trans ?_ (testCriteria_notified e f i _)
  split
  · exact ((FeederEvents.refl _).cooled e f).po
  · exact .refl _

/-- A feeder that is neither CLOSING nor CLOSED meets no criterion (R44). -/
theorem testCriteria_of_not_live (e : Env) {f : Nat} {x : Feeder} (i : Sample) (hx : b.feeder? f = some x)
    (hl : x.state.live = false) : testCriteria e f i b = b := by
  simp [testCriteria, hx, hl]

theorem live_iff (x : Feeder) : x.state.live = true ↔ x.Live := by
  unfold Feeder.Live
  cases x.state <;> simp [FeederState.live]

/-! ## The walk sample of a feeder's current channel -/

/-- The blocks on which PU takes the sample of a walk entry: all of Feeder Control as it stood. -/
structure SampleArrives (s : State) (b : Blocks) : Prop where
  feeders : b.feeders = s.blocks.feeders
  sections : b.sections = s.blocks.sections
  inserts : b.sq.inserts = s.blocks.sq.inserts
  waiting : b.sq.waiting = s.blocks.sq.waiting
  mode : b.sq.mode = s.blocks.sq.mode
  po : Notified s.blocks.po b.po

theorem SampleArrives.feeder {s : State} (h : SampleArrives s b) (f : Nat) : b.feeder? f = s.blocks.feeder? f := by
  rw [Blocks.feeder?, h.feeders]; rfl

/-- A command that ends the walk's conversion of the channel that `f` alone names hands PU its sample, and then comes the rest of
R25. -/
theorem walk_hands_sample {s : State} {tr : Conversion} {en : ScanEntry} {f : Nat} {x : Feeder} {c : Instr} {code : Int}
    {valid : Bool} {presence : Vector Presence 6} (hw : Walking s tr en) (ho : OwnsCurrent s.blocks f x)
    (hc : x.conn.currentCh = tr.channel) (h : ConversionEnds s tr c code valid presence) :
    ∃ b t, SampleArrives s b ∧ exec c s = .next t ∧ OnlyBlocks s t ∧
      t.blocks = afterSample s.env en tr.channel (sampleAt s.blocks tr.channel valid code)
        (currentSample s.env f (sampleAt s.blocks tr.channel valid code) b) := by
  obtain ⟨po, hpo, hx⟩ := exec_of_conversionEnds hw.run hw.flight h
  have hfree : OwnsCurrent (linkFreed presence po s.blocks) f x := ho
  have hby : (linkFreed presence po s.blocks).feederBy (·.currentCh) tr.channel = some f := by
    rw [← hc]; exact feederBy_of_owns hfree
  refine ⟨withLatest s.env tr.channel (sampleAt s.blocks tr.channel valid code) (linkFreed presence po s.blocks), _,
    ⟨rfl, rfl, rfl, rfl, rfl, hpo⟩, hx, rfl, ?_⟩
  have hh : handResult s.env tr valid code (linkFreed presence po s.blocks) =
      walkResult s.env tr.channel valid code (linkFreed presence po s.blocks) := by
    unfold handResult; rw [hw.owner]
  show handResult s.env tr valid code (linkFreed presence po s.blocks) = _
  rw [hh, walkResult_of_entry s.env tr.channel valid code (b := linkFreed presence po s.blocks) hw.entry, hby]
  rfl

/-- Notices handed before and after leave the one between among those of the event. -/
theorem notifiedOf_between {p q r : Po} {n : Notice} (h : Notified p q)
    (k : Notified (q.placeOn n n.body.kind.ports) r) : NotifiedOf n p r := by
  obtain ⟨ns, rfl⟩ := h
  obtain ⟨ms, rfl⟩ := k
  exact ⟨ns ++ n :: ms, by simp, by rw [List.foldl_append, List.foldl_cons]⟩

/-! ## Which results leave θ -/

theorem kept_theta_walkResult (e : Env) {ch f : Nat} {x : Feeder} {valid : Bool} {code : Int} (hx : b.feeder? f = some x)
    (h : valid = false ∨ x.conn.currentCh ≠ ch) :
    Kept SameTheta (b.feeder? f) ((walkResult e ch valid code b).feeder? f) := by
  cases he : look b.sq.slots b.sq.next with
  | none => rw [show walkResult e ch valid code b = b by simp [walkResult, Sq.entry, he]]; exact ThetaKept.refl b f
  | some en =>
    rw [walkResult_of_entry e ch valid code he]
    refine Machine.Kept.trans (r := SameTheta) .trans ?_ (thetaKept_of_alike (afterSample_alike e en ch _ _) f)
    split
    · exact thetaKept_of_feeders rfl f
    next g hg =>
      obtain ⟨z, hz, hzc⟩ := feederBy_some hg
      set v := sampleAt b ch valid code with hv
      have hz' : (withLatest e ch v b).feeder? g = some z := hz
      by_cases hi : v.cls = .invalid
      · exact thetaKept_of_records (currentSample_records_of_invalid e hz' hi) f
      · have hgf : f ≠ g := by
          rintro rfl
          obtain rfl : x = z := Option.some.inj (hx.symm.trans hz)
          exact hi ((classify_invalid_iff _ _ _ _).2 (h.resolve_right fun hne => hne hzc))
        refine Machine.Kept.trans (r := SameTheta) .trans ?_ (thetaKept_of_records (currentSample_records e hz' hi) f)
        rw [withSampled_feeder?_ne e z v hgf]
        exact Machine.Kept.refl .refl _

theorem kept_theta_handResult (e : Env) {tr : Conversion} {f : Nat} {x : Feeder} {valid : Bool} {code : Int}
    (hx : b.feeder? f = some x) (h : valid = false ∨ tr.owner ≠ .walk ∨ x.conn.currentCh ≠ tr.channel) :
    Kept SameTheta (b.feeder? f) ((handResult e tr valid code b).feeder? f) := by
  unfold handResult
  split
  next ho => exact kept_theta_walkResult e hx (h.imp_right fun k => k.resolve_left fun hn => hn ho)
  · exact thetaKept_insertResult e _ valid code b f
  · exact thetaKept_of_feeders (carryOn_feeders e b) f

theorem kept_theta_endConversion (e : Env) {tr : Conversion} {f : Nat} {x : Feeder} (p : Option Presence) {valid : Bool}
    {code : Int} (hx : b.feeder? f = some x) (h : valid = false ∨ tr.owner ≠ .walk ∨ x.conn.currentCh ≠ tr.channel) :
    Kept SameTheta (b.feeder? f) ((endConversion e tr p valid code b).feeder? f) := by
  obtain ⟨po, -, he⟩ := endConversion_eq e tr p valid code b
  rw [he]
  exact kept_theta_handResult e (b := linkFreed _ po b) hx h

/-- The 2 ms expiry moves no θ: it makes an INVALID sample (R45). -/
theorem converterAnswerExpiry_theta {s t : State} {f : Nat} {x : Feeder} (hx : s.blocks.feeder? f = some x)
    (h : exec .converterAnswerExpiry s = .next t) : ∃ y, t.blocks.feeder? f = some y ∧ y.pu.theta = x.pu.theta := by
  obtain rfl := Host.Outcome.next.inj h
  refine kept_some (r := SameTheta) ?_
  rw [← hx]
  unfold State.inRun
  split
  · exact ThetaKept.refl _ f
  · show Kept SameTheta (s.blocks.feeder? f) ((conversionExpires s.env s.blocks).feeder? f)
    unfold conversionExpires
    split
    · exact ThetaKept.refl _ f
    · split
      · exact kept_theta_endConversion s.env _ hx (.inl rfl)
      · exact ThetaKept.refl _ f

/-- A result of another owner or another channel moves no θ. -/
theorem converterAnswer_theta {s t : State} {a : ConverterAnswer} {tr : Conversion} {f : Nat} {x : Feeder}
    (hf : s.blocks.clc.inFlight = some tr) (hx : s.blocks.feeder? f = some x) (h : exec (.converterAnswer a) s = .next t)
    (hn : tr.owner ≠ .walk ∨ x.conn.currentCh ≠ tr.channel) :
    ∃ y, t.blocks.feeder? f = some y ∧ y.pu.theta = x.pu.theta := by
  obtain rfl := Host.Outcome.next.inj h
  refine kept_some (r := SameTheta) ?_
  rw [← hx]
  unfold State.inRun unlessLate
  split
  · exact ThetaKept.refl _ f
  · show Kept SameTheta (s.blocks.feeder? f)
      ((if a.late = true then s.blocks else takeAnswer a.bytes s.env s.blocks).feeder? f)
    split
    · exact ThetaKept.refl _ f
    · unfold takeAnswer
      rw [hf]
      split
      next u _ _ _ hu _ =>
        obtain rfl := Option.some.inj hu
        split
        · exact kept_theta_endConversion s.env _ hx (.inr hn)
        · exact ThetaKept.refl _ f
      · exact ThetaKept.refl _ f

/-! ## The end of COOLING (R48, R73, R74) -/

/-- The state in which a dead time ends (R74, R75): AWAIT_LEADER for a FOLLOWER whose partner is not CLOSED, else LINE_TEST. -/
def afterDeadTime (e : Env) (b : Blocks) (f : Nat) (x : Feeder) : FeederState :=
  if x.role = .follower ∧ ((e.partner f).map (feederIn b .closed)).getD false = false then .deadTime .awaitLeader
  else .lineTest (if b.sq.inserts.length < 4 then .precheck else .waitSlot)

theorem afterDeadTime_not_live (e : Env) (b : Blocks) (f : Nat) (x : Feeder) : (afterDeadTime e b f x).live = false := by
  unfold afterDeadTime
  split <;> rfl

theorem deadTimeEnds_state (e : Env) {f : Nat} {x : Feeder} (hx : b.feeder? f = some x) :
    ∃ y, (deadTimeEnds e f b).feeder? f = some y ∧ y.state = afterDeadTime e b f x := by
  unfold deadTimeEnds afterDeadTime
  rw [hx]
  dsimp only
  split
  · obtain ⟨y, hy, ha⟩ := moveFeeder_feeder e (.deadTime .awaitLeader) id [] hx
    exact ⟨y, hy, by rw [ha]; rfl⟩
  · obtain ⟨y, hy, ha⟩ := moveFeeder_feeder e (.lineTest (if insertRoom b then .precheck else .waitSlot)) id [] hx
    refine ⟨y, ?_, ?_⟩
    · unfold enterLineTest
      rw [Blocks.feeder?, askInsert_feeders]
      exact hy
    · rw [ha]
      by_cases hr : b.sq.inserts.length < 4 <;> simp [moved, Feeder.enter, Feeder.driven, insertRoom, Config.insertMax, hr]

/-- No partner of `f` is CLOSED. -/
theorem partner_not_closed (e : Env) (b : Blocks) (f : Nat) :
    ((e.partner f).map (feederIn b .closed)).getD false = false ↔
      ∀ g z, e.partner f = some g → b.feeder? g = some z → z.state ≠ .closed := by
  cases hp : e.partner f with
  | none => simp
  | some g =>
    rw [Option.map_some, Option.getD_some]
    constructor
    · rintro h _ z ⟨⟩ hz hzc
      simp [feederIn, hz, hzc] at h
    · intro h
      cases hz : b.feeder? g with
      | none => simp [feederIn, hz]
      | some z => simpa [feederIn, hz] using h g z rfl hz

theorem feederIn_withSampled (e : Env) {f : Nat} {x : Feeder} (i : Sample) (st : FeederState) (g : Nat)
    (hx : b.feeder? f = some x) : feederIn (withSampled e f x i b) st g = feederIn b st g := by
  unfold feederIn
  by_cases hg : g = f
  · subst hg
    rw [withSampled_feeder? e i hx, hx]
    rfl
  · rw [withSampled_feeder?_ne e x i hg]

/-- Whether a dead time ends, and in which state, is as Feeder Control stood when the sample came. -/
theorem afterDeadTime_of_arrives {s : State} {f : Nat} {x : Feeder} (h : SampleArrives s b) (hx : b.feeder? f = some x)
    (i : Sample) :
    afterDeadTime s.env (withSampled s.env f x i b) f (sampled s.env x i) = afterDeadTime s.env s.blocks f x := by
  have hfeeds : feederIn (withSampled s.env f x i b) .closed = feederIn s.blocks .closed := by
    funext g
    rw [feederIn_withSampled s.env i .closed g hx]
    unfold feederIn
    rw [h.feeder]
  unfold afterDeadTime
  rw [hfeeds, withSampled_sq, h.inserts]
  rfl

/-- A sample of a feeder in COOLING ends its dead time below θ_alarm, and leaves its state at and above it (R48). -/
theorem currentSample_of_cooling (e : Env) {f : Nat} {x : Feeder} {i : Sample} (hx : b.feeder? f = some x)
    (hi : i.cls ≠ .invalid) (hc : x.state = .deadTime .cooling) :
    ∃ z, (currentSample e f i b).feeder? f = some z ∧ z.state =
      if nextTheta x i < x.conn.settings.thetaAlarm then
        afterDeadTime e (withSampled e f x i b) f (sampled e x i) else .deadTime .cooling := by
  have hs := withSampled_feeder? e i hx
  have hst : (sampled e x i).state = .deadTime .cooling := hc
  rw [currentSample_of_value e hx hi]
  split_ifs
  · have hcd : cooled e f (withSampled e f x i b) = deadTimeEnds e f (withSampled e f x i b) := by
      unfold cooled
      rw [if_pos]
      simp only [feederIn, hs, Option.map_some, hst, decide_true]
    obtain ⟨u, hu, hus⟩ := deadTimeEnds_state e hs
    rw [hcd, testCriteria_of_not_live e i hu (by rw [hus]; exact afterDeadTime_not_live ..)]
    exact ⟨u, hu, hus⟩
  · rw [testCriteria_of_not_live e i hs (by rw [hst]; rfl)]
    exact ⟨_, hs, hst⟩

/-! ## A sample of the feeder's own channel -/

/-- A sample with a value has been taken: PU's record, and the state of a feeder in COOLING. -/
structure SampleTaken (s : State) (f : Nat) (x : Feeder) (v : Sample) (po : Po) (y : Feeder) : Prop where
  pu : SamePu (sampled s.env x v) y
  alarm : ¬ nextTheta x v < x.conn.settings.thetaAlarm → x.pu.alarmArmed = true →
    NotifiedOf ⟨s.time, .thermalAlarm f (nextTheta x v) x.conn.settings.thetaAlarm⟩ s.blocks.po po
  cooling : x.state = .deadTime .cooling → y.state =
    if nextTheta x v < x.conn.settings.thetaAlarm then afterDeadTime s.env s.blocks f x else .deadTime .cooling

/-- What follows PU in the event of a sample leaves both. -/
theorem sampleTaken_of_arrives {s : State} {f : Nat} {x : Feeder} {v : Sample} {d : Blocks} (hb : SampleArrives s b)
    (hx : b.feeder? f = some x) (hi : v.cls ≠ .invalid) (hal : AllAlike (currentSample s.env f v b) d)
    (hpo : Notified (currentSample s.env f v b).po d.po) :
    ∃ y, d.feeder? f = some y ∧ SampleTaken s f x v d.po y := by
  have hs := (currentSample_acts s.env hx hi).pu f
  rw [withSampled_feeder? s.env v hx] at hs
  obtain ⟨z, hz, hzp⟩ := kept_some hs
  have hf := hal f
  rw [hz] at hf
  obtain ⟨y, hy, hyz⟩ := kept_some hf
  refine ⟨y, hy, hzp.trans hyz.samePu, fun hna har => notifiedOf_between hb.po ?_, fun hc => ?_⟩
  · have k := (currentSample_notified s.env hx hi).trans hpo
    unfold withSampled at k
    rw [if_pos ⟨hna, har⟩] at k
    exact k
  · obtain ⟨w, hw, hws⟩ := currentSample_of_cooling s.env hx hi hc
    obtain rfl : z = w := Option.some.inj (hz.symm.trans hw)
    rw [afterDeadTime_of_arrives hb hx] at hws
    rw [hyz]
    exact hws

/-- A sample without a value leaves θ (R45). -/
theorem theta_of_invalid {s : State} {f : Nat} {x : Feeder} {v : Sample} {d : Blocks} (hx : b.feeder? f = some x)
    (hi : v.cls = .invalid) (hal : AllAlike (currentSample s.env f v b) d) :
    ∃ y, d.feeder? f = some y ∧ y.pu.theta = x.pu.theta := by
  have k := (thetaKept_of_records (currentSample_records_of_invalid s.env hx hi)).trans (thetaKept_of_alike hal) f
  rw [hx] at k
  exact kept_some k

/-- Settles O41: every other command leaves θ (`exec_thermal`), a result of another channel leaves it, and a sample of the
feeder's own moves it once, alarm and COOLING following (`sampleTaken_of_arrives`). -/
theorem thetaMovesOnlyOnCurrentSamples : Obligations.ThetaMovesOnlyOnCurrentSamples := by
  refine ⟨fun i s t f x h hx h₁ h₂ h₃ h₄ h₅ h₆ => ?_, fun s t tr f x hf hx =>
    ⟨converterAnswerExpiry_theta hx, fun a h hn => converterAnswer_theta hf hx h hn, ?_⟩⟩
  · have hm : ¬ MayWriteThermal i := by
      rintro (⟨a, h⟩ | h | h | ⟨p, bytes, h⟩ | ⟨p, tag, h⟩ | ⟨p, tag, h⟩)
      exacts [h₁ a h, h₂ h, h₃ h, h₄ p bytes h, h₅ p tag h, h₆ p tag h]
    have hk := exec_thermal hm h f
    rw [hx] at hk
    exact kept_some hk
  · intro bytes en code valid hw ho hc ha v
    obtain ⟨b, t, hb, hex, -, ht⟩ := walk_hands_sample hw ho hc (.inl ⟨bytes, rfl, ha, rfl⟩)
    have hbx : b.feeder? f = some x := (hb.feeder f).trans hx
    have hal : AllAlike (currentSample s.env f v b) t.blocks := by
      rw [ht]; exact afterSample_alike s.env en tr.channel v _
    by_cases hi : v.cls = .invalid
    · obtain ⟨y, hy, hth⟩ := theta_of_invalid hbx hi hal
      exact ⟨t, y, hex, hy, fun _ => hth, fun hn => absurd hi hn⟩
    · have hpo : Notified (currentSample s.env f v b).po t.blocks.po := by
        rw [ht]; exact afterSample_notified s.env en tr.channel v _
      obtain ⟨y, hy, hpu, halarm, hcooling⟩ := sampleTaken_of_arrives hb hbx hi hal hpo
      have htheta : y.pu.theta = nextTheta x v := by rw [hpu]; rfl
      have harmed : y.pu.alarmArmed = decide (nextTheta x v < x.conn.settings.thetaAlarm) := by rw [hpu]; rfl
      refine ⟨t, y, hex, hy, fun hn => absurd hn hi, fun _ => ⟨htheta, ?_, fun hge har => ?_, fun hcool => ?_⟩⟩
      · rw [htheta, harmed]
      · rw [htheta] at hge ⊢
        exact halarm (not_lt.2 hge) har
      · rw [htheta, hcooling hcool]
        have hwaits := and_congr_right' (a := x.role = .follower) (partner_not_closed s.env s.blocks f)
        exact ⟨fun hge => if_neg (not_lt.2 hge), fun hlt hwt => (if_pos hlt).trans (if_pos (hwaits.2 hwt)),
          fun hlt hwt => (if_pos hlt).trans (if_neg fun hk => hwt (hwaits.1 hk))⟩

end Sys2Proof.Machine.Protection

namespace Sys2Proof.Machine.Protection

open Sys2Proof Sys2Proof.Machine

variable {b : Blocks}

/-! ## The records a trip leaves (R65, R68, R70) -/

/-- PU's values after a trip: no step state of CLOSED, no stale timer (R54, R55). -/
def tripPu (x : Feeder) : Pu := { x.pu with step := if x.state = .closed then none else x.pu.step, stale := none }

/-- The record of a feeder `x` that a trip with cause `c` has sent into TRIPPING, the close-onto-fault mark being `mark`. -/
structure Tripped (e : Env) (x : Feeder) (c : Cause) (mark : Bool) (y : Feeder) : Prop where
  conn : y.conn = x.conn
  state : y.state = .tripping
  cause : y.cause = some c
  mark : y.closeOntoFault = mark
  timer : y.stateTimer = some ⟨e.time, x.conn.settings.tTrip⟩
  trip : y.tripCoil = true
  close : y.closeCoil = false
  pu : y.pu = tripPu x

/-- The record of a feeder `x` whose trip is over, in state `st` with cause `c`. -/
structure TripOver (e : Env) (x : Feeder) (st : FeederState) (c : Cause) (y : Feeder) : Prop where
  conn : y.conn = x.conn
  state : y.state = st
  cause : y.cause = some c
  mark : y.closeOntoFault = false
  timer : y.stateTimer = stateTimerOn e x.conn.settings st
  trip : y.tripCoil = false
  close : y.closeCoil = false
  pu : y.pu = tripPu x

variable {e : Env} {x y z : Feeder} {c : Cause} {mark : Bool} {st : FeederState}

theorem Tripped.alike (h : Tripped e x c mark y) (k : Alike y z) : Tripped e x c mark z := by
  rw [k]; exact ⟨h.conn, h.state, h.cause, h.mark, h.timer, h.trip, h.close, h.pu⟩

theorem Tripped.withCause (h : Tripped e x c mark y) (d : Cause) : Tripped e x d mark (withCause d y) :=
  ⟨h.conn, h.state, rfl, h.mark, h.timer, h.trip, h.close, h.pu⟩

/-- A feeder whose live-on-isolated arming alone differed gives the same records. -/
theorem Tripped.of_alike (h : Tripped e y c mark z) (k : Alike x y) : Tripped e x c mark z := by
  rw [k] at h; exact ⟨h.conn, h.state, h.cause, h.mark, h.timer, h.trip, h.close, h.pu⟩

theorem TripOver.alike (h : TripOver e x st c y) (k : Alike y z) : TripOver e x st c z := by
  rw [k]; exact ⟨h.conn, h.state, h.cause, h.mark, h.timer, h.trip, h.close, h.pu⟩

/-- A state that R70 gives at the end of a trip, or R81 after it: no outputs are driven there, and PU takes no samples. -/
def Rests (st : FeederState) : Prop := st ≠ .tripping ∧ st.live = false

theorem Rests.not_closing (h : Rests st) : st ≠ .closing := by
  rintro rfl
  exact absurd h.2 (by decide)

theorem Rests.not_closed (h : Rests st) : st ≠ .closed := by
  rintro rfl
  exact absurd h.2 (by decide)

theorem afterTrip_rests (b : Blocks) (x : Feeder) (c : Cause) : Rests (afterTrip b x c).1 := by
  unfold afterTrip
  split_ifs <;> exact ⟨by simp, rfl⟩

/-- Where the cause is not VEHICLE only an inhibit ends a trip in WAIT_CLEAR (R70). -/
theorem inhibit_of_waitClear (h : (afterTrip b x c).1 = .waitClear) (hc : c ≠ .vehicle) : 0 < b.inhibit x.conn.sec := by
  by_contra hi
  have : ¬ (c = .vehicle ∨ 0 < b.inhibit x.conn.sec) := not_or.2 ⟨hc, hi⟩
  revert h
  unfold afterTrip
  rw [if_neg this]
  split_ifs <;> simp

/-- PU has no step state and no stale timer to lose in a state it does not protect (R54, R55). -/
theorem onChange_of_rests (e : Env) (n : Nat) (p : Pu) {old new : FeederState} (hn : Rests new) (ho : old ≠ .closed)
    (hs : p.stale = none) : p.onChange e n old new = p := by
  simp [Pu.onChange, hn.not_closed, hn.not_closing, hn.2, ho, ← hs]

/-! ## Entering TRIPPING (R68, R69) -/

theorem giveRole_feeder (e : Env) {f : Nat} (c : Cause) (hx : b.feeder? f = some x) :
    ∃ r, (giveRole e f c b).feeder? f = some { x with role := r } := by
  unfold giveRole
  rw [hx]
  dsimp only
  have k (r : RecloseRole) := Blocks.feeder?_setFeeder_self b f x { x with role := r } hx
  split_ifs
  · exact ⟨x.role, hx⟩
  · exact ⟨_, k _⟩
  · exact ⟨_, k _⟩

theorem giveRole_waiting (e : Env) (f : Nat) (c : Cause) (b : Blocks) : (giveRole e f c b).sq.waiting = b.sq.waiting := by
  unfold giveRole
  split
  · rfl
  · dsimp only
    split_ifs <;> rfl

theorem enterTripping_waiting (e : Env) (f : Nat) (c : Cause) (mark : Bool) (i : Option Sample) (ns : List NoticeBody)
    (b : Blocks) : (enterTripping e f c mark i ns b).sq.waiting = b.sq.waiting :=
  (moveFeeder_waiting ..).trans (giveRole_waiting ..)

theorem enterTripping_feeder (e : Env) {f : Nat} (c : Cause) (mark : Bool) (i : Option Sample) (ns : List NoticeBody)
    (hx : b.feeder? f = some x) :
    ∃ y, (enterTripping e f c mark i ns b).feeder? f = some y ∧ Tripped e x c mark y := by
  obtain ⟨r, hr⟩ := giveRole_feeder e c hx
  obtain ⟨y, hy, ha⟩ := moveFeeder_feeder e .tripping (fun x => { withCause c x with closeOntoFault := mark })
    (tripNotices b f c i ++ ns) hr
  have h : Tripped e x c mark (moved e (giveRole e f c b) f .tripping
      (fun x => { withCause c x with closeOntoFault := mark }) { x with role := r }) :=
    ⟨rfl, rfl, rfl, rfl, rfl, rfl, rfl, rfl⟩
  exact ⟨y, hy, h.alike ha⟩

theorem giveRole_other (e : Env) {f g : Nat} (c : Cause) (b : Blocks) (h : g ≠ f) :
    (giveRole e f c b).feeder? g = b.feeder? g := by
  unfold giveRole
  split
  · rfl
  next x _ =>
    dsimp only
    split_ifs
    · rfl
    · exact Blocks.feeder?_setFeeder_ne b f g _ h
    · exact Blocks.feeder?_setFeeder_ne b f g _ h

theorem moveFeeder_other (e : Env) {f g : Nat} (new : FeederState) (set : Feeder → Feeder) (ns : List NoticeBody)
    (b : Blocks) (h : g ≠ f) : Kept Alike (b.feeder? g) ((moveFeeder e f new set ns b).feeder? g) := by
  cases hx : b.feeder? f with
  | none => rw [moveFeeder_of_none e new set ns hx]; exact Machine.Kept.refl .refl _
  | some x =>
    rw [← Blocks.feeder?_setFeeder_ne b f g (moved e b f new set x) h]
    exact (moveFeeder_settles e new set ns hx).alike g

theorem enterTripping_other (e : Env) {f g : Nat} (c : Cause) (mark : Bool) (i : Option Sample) (ns : List NoticeBody)
    (b : Blocks) (h : g ≠ f) : Kept Alike (b.feeder? g) ((enterTripping e f c mark i ns b).feeder? g) := by
  rw [← giveRole_other e c b h]
  exact moveFeeder_other e _ _ _ _ h

/-! ## The end of a trip (R70) -/

theorem inhibit_of_recordsKept {b c : Blocks} (h : RecordsKept b c) (sec : Nat) : c.inhibit sec = b.inhibit sec := by
  have k := h.sections sec
  unfold Blocks.inhibit
  cases hb : b.section? sec with
  | none =>
    rw [hb] at k
    cases hc : c.section? sec with
    | none => rfl
    | some w => rw [hc] at k; cases k
  | some z =>
    rw [hb] at k
    obtain ⟨w, hw, hs⟩ := kept_some k
    rw [hw]
    exact hs.inhibit

/-- The fields that the end of a trip sets besides the state (R70). -/
def endTrip (c : Cause) (x : Feeder) : Feeder := { withCause c x with closeOntoFault := false }

/-- Where the cause is not VEHICLE a trip ends in WAIT_CLEAR only under an inhibit, and stays there (R70, R82). -/
theorem finishTrip_eq (e : Env) {f : Nat} (ns : List NoticeBody) (hx : b.feeder? f = some x) (hc : c ≠ .vehicle) :
    finishTrip e f c ns b = moveFeeder e f (afterTrip b x c).1 (endTrip (afterTrip b x c).2) ns b := by
  unfold finishTrip
  rw [hx]
  dsimp only
  refine if_neg ?_
  rintro ⟨hw, hi⟩
  have hk := inhibit_of_recordsKept ((RecordsKept.refl b).moveFeeder e f (afterTrip b x c).1
    (set := endTrip (afterTrip b x c).2) (fun _ => .same rfl rfl rfl rfl rfl rfl rfl rfl) ns) x.conn.sec
  have hpos := inhibit_of_waitClear hw hc
  have hzero := hk.symm.trans hi
  omega

/-- A feeder whose trip is over, or is now, in the state it moves to. -/
theorem tripOver_of_moved (e : Env) {f : Nat} {set : Feeder → Feeder} (hst : Rests st) (hconn : y.conn = x.conn)
    (hold : y.state ≠ .closed) (hpu : y.pu = tripPu x)
    (hset : ∀ u, set u = { withCause c u with closeOntoFault := (set u).closeOntoFault })
    (hm : (set (y.enter e st)).closeOntoFault = false) : TripOver e x st c (moved e b f st set y) := by
  have hu := hset (y.enter e st)
  refine ⟨?_, ?_, ?_, hm, ?_, ?_, ?_, ?_⟩ <;> unfold moved <;> dsimp only <;> rw [hu]
  · exact hconn
  · rfl
  · rfl
  · rw [← hconn]; rfl
  · exact decide_eq_false hst.1
  · exact decide_eq_false hst.not_closing
  · show y.pu.onChange e y.conn.settings.tStale y.state st = tripPu x
    rw [onChange_of_rests e _ _ hst hold (by rw [hpu]; rfl), hpu]

theorem finishTrip_feeder (e : Env) {f : Nat} (ns : List NoticeBody) {d : Cause} (hy : b.feeder? f = some y)
    (h : Tripped e x c mark y) (hd : d ≠ .vehicle) :
    ∃ z, (finishTrip e f d ns b).feeder? f = some z ∧ TripOver e x (afterTrip b y d).1 (afterTrip b y d).2 z := by
  rw [finishTrip_eq e ns hy hd]
  obtain ⟨z, hz, ha⟩ := moveFeeder_feeder e (afterTrip b y d).1 (endTrip (afterTrip b y d).2) ns hy
  refine ⟨z, hz, TripOver.alike ?_ ha⟩
  exact tripOver_of_moved e (afterTrip_rests b y d) h.conn (by rw [h.state]; simp) h.pu (fun _ => rfl) rfl

theorem finishTrip_waiting (e : Env) {f : Nat} (ns : List NoticeBody) (hx : b.feeder? f = some x) (hc : c ≠ .vehicle) :
    (finishTrip e f c ns b).sq.waiting = b.sq.waiting := by
  rw [finishTrip_eq e ns hx hc, moveFeeder_waiting]

/-- Where the contact reads OPEN a trip is over at once, and R81 follows (R68, R70). -/
theorem settleTrip_of_opened (e : Env) {f : Nat} (hy : b.feeder? f = some y) (h : Tripped e x c mark y)
    (ho : e.aux f = .opened) : settleTrip e f b = partnerConsequence e f (finishTrip e f c [] b) := by
  unfold settleTrip completeTrip
  rw [if_pos ho, hy]
  dsimp only
  rw [if_pos h.state, h.cause]
  rfl

theorem settleTrip_of_closed (e : Env) {f : Nat} (b : Blocks) (hc : e.aux f = .closed) : settleTrip e f b = b :=
  if_neg (by simp [hc])

/-! ## R81 after a trip -/

/-- R81 does nothing, or treats a follower that loses its leader. -/
theorem partnerConsequence_of_not_closed (e : Env) {f g : Nat} (hx : b.feeder? f = some x) (hc : x.state ≠ .closed)
    (hp : e.partner f = some g) (hy : b.feeder? g = some y) :
    partnerConsequence e f b = b ∨
      x.state.endsSequence = true ∧ partnerConsequence e f b = followerLosesLeader e g y b := by
  unfold partnerConsequence
  rw [hx, hp]
  dsimp only
  rw [hy]
  dsimp only
  split_ifs with h₁ h₂ h₃
  · exact .inr ⟨h₂, rfl⟩
  · exact absurd h₃.1 hc
  · exact .inl rfl
  · exact .inl rfl

/-- A TRIPPING follower that loses its leader takes cause PARTNER, or keeps its own (R81). -/
theorem followerLosesLeader_tripped (e : Env) {g : Nat} (hy : b.feeder? g = some y) (h : Tripped e x c mark y) :
    ∃ z d, (followerLosesLeader e g y b).feeder? g = some z ∧ Tripped e x d mark z ∧ (d = c ∨ d = .partner) ∧
      (followerLosesLeader e g y b).sq = b.sq := by
  unfold followerLosesLeader
  rw [h.state]
  dsimp only
  split_ifs
  · exact ⟨y, c, hy, h, .inl rfl, rfl⟩
  · exact ⟨_, .partner, Blocks.feeder?_setFeeder_self b g y _ hy, h.withCause _, .inr rfl, rfl⟩

/-- A feeder whose trip is over and that waits for no insert place keeps its state, or goes to LOCKOUT with cause PARTNER
(R81). -/
theorem followerLosesLeader_over (e : Env) {g : Nat} (hy : b.feeder? g = some y) (h : TripOver e x st c y) (hr : Rests st)
    (ha : Apart g b) :
    ∃ z, (followerLosesLeader e g y b).feeder? g = some z ∧ (TripOver e x st c z ∨ TripOver e x .lockout .partner z) := by
  have hlock : Rests .lockout := ⟨by simp, rfl⟩
  have left : ∃ z, (leaveSequence e g .lockout (withCause .partner) [] b).feeder? g = some z ∧
      (TripOver e x st c z ∨ TripOver e x .lockout .partner z) := by
    obtain ⟨u, hu, hau⟩ := moveFeeder_feeder e .lockout (withCause .partner) [] hy
    have hover : TripOver e x .lockout .partner u := by
      refine TripOver.alike (tripOver_of_moved e hlock h.conn ?_ h.pu (fun _ => rfl) ?_) hau
      · rw [h.state]; exact hr.not_closed
      · simp [withCause, Feeder.enter, Feeder.driven, h.mark]
    have hk := ((ActsOn.refl (S := fun _ => False) (moveFeeder e g .lockout (withCause .partner) [] b)).withdrawInsert e g).others
      g not_false (by unfold Apart; rw [moveFeeder_waiting]; exact ha)
    rw [hu] at hk
    obtain ⟨z, hz, haz⟩ := kept_some hk.1
    exact ⟨z, hz, .inr (hover.alike haz)⟩
  have stays : ∃ z, b.feeder? g = some z ∧ (TripOver e x st c z ∨ TripOver e x .lockout .partner z) := ⟨y, hy, .inl h⟩
  unfold followerLosesLeader
  split
  next hs => exact left
  next hs => exact left
  next hs => exact left
  next hs => exact absurd (h.state.symm.trans hs) hr.1
  next hs => exact absurd (h.state.symm.trans hs) hr.not_closing
  next hs => exact absurd (h.state.symm.trans hs) hr.not_closed
  all_goals exact stays

end Sys2Proof.Machine.Protection

namespace Sys2Proof.Machine.Protection

open Sys2Proof Sys2Proof.Machine

variable {b : Blocks} {e : Env} {x y z w : Feeder} {c d : Cause} {mark : Bool} {st : FeederState}

/-! ## The end of a trip whose contact reads OPEN (R68, R70, R81) -/

theorem Apart.of_waiting {b c : Blocks} {f : Nat} (h : Apart f b) (hw : c.sq.waiting = b.sq.waiting) : Apart f c := by
  unfold Apart; rw [hw]; exact h

/-- A feeder that has ended its sequence loses no leader (R81). -/
theorem followerLosesLeader_of_ends (e : Env) (g : Nat) (b : Blocks) (h : y.state.endsSequence = true) :
    followerLosesLeader e g y b = b := by
  unfold followerLosesLeader
  cases hs : y.state <;> simp [hs, FeederState.endsSequence] at h ⊢

/-- The feeder itself leaves for the state R70 gives, and waits for no insert place. -/
theorem settleTrip_own {f : Nat} (hy : b.feeder? f = some y) (h : Tripped e x c mark y) (hc : c ≠ .vehicle)
    (ha : Apart f b) (ho : e.aux f = .opened) :
    ∃ z, (settleTrip e f b).feeder? f = some z ∧ TripOver e x (afterTrip b y c).1 (afterTrip b y c).2 z ∧
      Apart f (settleTrip e f b) := by
  rw [settleTrip_of_opened e hy h ho]
  obtain ⟨z, hz, hover⟩ := finishTrip_feeder e [] hy h hc
  have ha' : Apart f (finishTrip e f c [] b) := ha.of_waiting (finishTrip_waiting e [] hy hc)
  by_cases hp : e.partner f = some f
  · refine ⟨z, ?_⟩
    rcases partnerConsequence_of_not_closed e hz (by rw [hover.state]; exact (afterTrip_rests b y c).not_closed) hp hz
      with hk | ⟨hends, hk⟩
    · rw [hk]; exact ⟨hz, hover, ha'⟩
    · rw [hk, followerLosesLeader_of_ends e f _ hends]; exact ⟨hz, hover, ha'⟩
  · have hk := ((ActsOn.refl (S := fun g => e.partner f = some g) (finishTrip e f c [] b)).partnerConsequence e
      fun _ h => h).others f hp ha'
    rw [hz] at hk
    obtain ⟨z', hz', hal⟩ := kept_some hk.1
    exact ⟨z', hz', hover.alike hal, hk.2⟩

/-- What R81 does to another feeder `g` as the trip of `f` ends: nothing, or the loss of its leader where it is the partner. -/
theorem settleTrip_other {f g : Nat} (hgf : g ≠ f) (hy : b.feeder? f = some y) (h : Tripped e x c mark y)
    (hc : c ≠ .vehicle) (ho : e.aux f = .opened) (hw : b.feeder? g = some w) (ha : Apart g b) :
    ∃ d w', Alike w w' ∧ d.feeder? g = some w' ∧ Apart g d ∧
      ((settleTrip e f b).feeder? g = some w' ∧ Apart g (settleTrip e f b) ∨
        settleTrip e f b = followerLosesLeader e g w' d) := by
  rw [settleTrip_of_opened e hy h ho]
  obtain ⟨z, hz, hover⟩ := finishTrip_feeder e [] hy h hc
  have hk := ((ActsOn.refl (S := (· = f)) b).finishTrip e c [] rfl).others g hgf ha
  rw [hw] at hk
  obtain ⟨⟨w', hw', hal⟩, ha'⟩ := And.intro (kept_some hk.1) hk.2
  by_cases hp : e.partner f = some g
  · refine ⟨_, w', hal, hw', ha', ?_⟩
    rcases partnerConsequence_of_not_closed e hz (by rw [hover.state]; exact (afterTrip_rests b y c).not_closed) hp hw'
      with hk | ⟨-, hk⟩
    · rw [hk]; exact .inl ⟨hw', ha'⟩
    · exact .inr hk
  · have hk := ((ActsOn.refl (S := fun g => e.partner f = some g) (finishTrip e f c [] b)).partnerConsequence e
      fun _ h => h).others g hp ha'
    rw [hw'] at hk
    obtain ⟨⟨u, hu, hau⟩, hap⟩ := And.intro (kept_some hk.1) hk.2
    exact ⟨_, u, hal.trans hau, hu, hap, .inl ⟨hu, hap⟩⟩

theorem settleTrip_other_tripped {f g : Nat} (hgf : g ≠ f) (hy : b.feeder? f = some y) (h : Tripped e x c mark y)
    (hc : c ≠ .vehicle) (ho : e.aux f = .opened) {m : Bool} (hw : b.feeder? g = some w) (k : Tripped e z d m w)
    (ha : Apart g b) :
    ∃ w' d', (settleTrip e f b).feeder? g = some w' ∧ Tripped e z d' m w' ∧ (d' = d ∨ d' = .partner) ∧
      Apart g (settleTrip e f b) := by
  obtain ⟨b', u, hal, hu, hap, hs | hs⟩ := settleTrip_other hgf hy h hc ho hw ha
  · exact ⟨u, d, hs.1, k.alike hal, .inl rfl, hs.2⟩
  · obtain ⟨v, d', hv, hk, hd, hsq⟩ := followerLosesLeader_tripped e hu (k.alike hal)
    rw [hs]
    exact ⟨v, d', hv, hk, hd, hap.of_waiting (by rw [hsq])⟩

theorem settleTrip_other_over {f g : Nat} (hgf : g ≠ f) (hy : b.feeder? f = some y) (h : Tripped e x c mark y)
    (hc : c ≠ .vehicle) (ho : e.aux f = .opened) (hw : b.feeder? g = some w) (k : TripOver e z st d w) (hr : Rests st)
    (ha : Apart g b) :
    ∃ w', (settleTrip e f b).feeder? g = some w' ∧ (TripOver e z st d w' ∨ TripOver e z .lockout .partner w') := by
  obtain ⟨b', u, hal, hu, hap, hs | hs⟩ := settleTrip_other hgf hy h hc ho hw ha
  · exact ⟨u, hs.1, .inl (k.alike hal)⟩
  · rw [hs]
    exact followerLosesLeader_over e hu (k.alike hal) hr hap

/-! ## The intertrip of the partner (R68, R70) -/

theorem openIntertrip_eq (b : Blocks) (z : Feeder) :
    openIntertrip b z = if 0 < b.inhibit z.conn.sec then .waitClear
      else if z.conn.settings.nRc = 0 then .lockout else .deadTime .timing := by
  unfold openIntertrip Blocks.inhibit
  cases b.section? z.conn.sec <;> simp

/-- R70's table for an intertrip. -/
theorem afterTrip_intertrip (h : Tripped e z .intertrip false w) :
    afterTrip b w .intertrip = (openIntertrip b z, .intertrip) := by
  rw [openIntertrip_eq]
  unfold afterTrip
  simp only [h.mark, h.conn, reduceCtorEq, if_false, false_or, Bool.false_eq_true]
  split_ifs <;> rfl

/-- R70's table for a trip onto a fault that PU raised. -/
theorem afterTrip_marked (h : y.closeOntoFault = true) (h₁ : c ≠ .command) (h₂ : c ≠ .permit) :
    afterTrip b y c = (.lockout, .closeOntoFault) := by
  simp [afterTrip, h, h₁, h₂]

theorem openIntertrip_rests (b : Blocks) (z : Feeder) : Rests (openIntertrip b z) := by
  rw [openIntertrip_eq]
  split_ifs <;> exact ⟨by simp, rfl⟩

/-- The record of a feeder `z` that an intertrip has taken: TRIPPING, or at once in R70's state. -/
structure Intertripped (e : Env) (b : Blocks) (g : Nat) (z w : Feeder) : Prop where
  closed : e.aux g = .closed → Tripped e z .intertrip false w
  opened : e.aux g = .opened → TripOver e z (openIntertrip b z) .intertrip w

theorem Intertripped.of_alike {a b : Blocks} {g : Nat} {z z' : Feeder} (h : Intertripped e b g z' w) (hal : Alike z z')
    (hin : ∀ sec, b.inhibit sec = a.inhibit sec) : Intertripped e a g z w where
  closed hg := (h.closed hg).of_alike hal
  opened hg := by
    have k := h.opened hg
    rw [hal, openIntertrip_eq] at k
    rw [openIntertrip_eq, ← hin]
    exact ⟨k.conn, k.state, k.cause, k.mark, k.timer, k.trip, k.close, k.pu⟩

/-- The intertrip of a live feeder `g` while `f` is TRIPPING: `f` may lose its leader by it, where the trip of `g` is over at
once (R68, R70, R81). -/
theorem tripLive_intertrip {f g : Nat} (hgf : g ≠ f) (hy : b.feeder? f = some y) (h : Tripped e x c mark y)
    (hz : b.feeder? g = some z) (hl : z.Live) (haf : Apart f b) (hag : Apart g b) :
    ∃ u d w, (tripLive e g .intertrip b).feeder? f = some u ∧ Tripped e x d mark u ∧
      (d = c ∨ d = .partner ∧ e.aux g = .opened) ∧ Apart f (tripLive e g .intertrip b) ∧
      (tripLive e g .intertrip b).feeder? g = some w ∧ Intertripped e b g z w ∧ Apart g (tripLive e g .intertrip b) := by
  have ht : tripLive e g .intertrip b = settleTrip e g (enterTripping e g .intertrip false none [] b) := by
    unfold tripLive
    rw [hz]
    exact if_pos ((live_iff z).2 hl)
  rw [ht]
  obtain ⟨w, hw, hwt⟩ := enterTripping_feeder e .intertrip false none [] hz
  have hwait := enterTripping_waiting e g .intertrip false none [] b
  have hin : ∀ sec, (enterTripping e g .intertrip false none [] b).inhibit sec = b.inhibit sec :=
    inhibit_of_recordsKept ((RecordsKept.refl b).enterTripping e g .intertrip false none [])
  have hk := ((ActsOn.refl (S := (· = g)) b).enterTripping e .intertrip false none [] rfl).others f (Ne.symm hgf) haf
  rw [hy] at hk
  obtain ⟨⟨u, hu, hal⟩, hapf⟩ := And.intro (kept_some hk.1) hk.2
  have hut := h.alike hal
  have hapg := hag.of_waiting hwait
  cases ho : e.aux g with
  | closed =>
    rw [settleTrip_of_closed e _ ho]
    exact ⟨u, c, w, hu, hut, .inl rfl, hapf, hw, ⟨fun _ => hwt, fun hn => by simp [ho] at hn⟩, hapg⟩
  | opened =>
    obtain ⟨v, hv, hover, hapg'⟩ := settleTrip_own hw hwt (by simp) hapg ho
    obtain ⟨u', d, hu', hut', hd, hapf'⟩ := settleTrip_other_tripped (Ne.symm hgf) hw hwt (by simp) ho hu hut hapf
    have hst : openIntertrip (enterTripping e g .intertrip false none [] b) z = openIntertrip b z := by
      rw [openIntertrip_eq, openIntertrip_eq, hin]
    rw [afterTrip_intertrip hwt, hst] at hover
    exact ⟨u', d, v, hu', hut', hd.imp_right fun hp => ⟨hp, rfl⟩, hapf', hv,
      ⟨fun hn => by simp [ho] at hn, fun _ => hover⟩, hapg'⟩

/-- R68's intertrip as a trip of `f` gives it. -/
def partnerTripped (e : Env) (f : Nat) (b : Blocks) : Blocks :=
  match e.partner f with
  | none => b
  | some g => tripLive e g .intertrip b

theorem takeTrip_of_live {f : Nat} (i : Option Sample) (hx : b.feeder? f = some x) (hl : x.Live) :
    takeTrip e f c i b =
      settleTrip e f (partnerTripped e f (enterTripping e f c (decide (x.state = .closing)) i [] b)) := by
  unfold takeTrip
  rw [hx]
  exact if_pos ((live_iff x).2 hl)

/-- The records after the intertrip, the trip of `f` not yet over. -/
theorem partnerTripped_records {f : Nat} (hp : e.partner f ≠ some f) (hy : b.feeder? f = some y)
    (h : Tripped e x c mark y) (haf : Apart f b)
    (hag : ∀ g z, e.partner f = some g → b.feeder? g = some z → z.Live → Apart g b) :
    ∃ u d, (partnerTripped e f b).feeder? f = some u ∧ Tripped e x d mark u ∧ (d = c ∨ d = .partner) ∧
      ((∀ g z, e.partner f = some g → b.feeder? g = some z → z.Live → e.aux g = .closed) → d = c) ∧
      Apart f (partnerTripped e f b) ∧
      ∀ g z, e.partner f = some g → b.feeder? g = some z → z.Live →
        ∃ w, (partnerTripped e f b).feeder? g = some w ∧ Intertripped e b g z w ∧ Apart g (partnerTripped e f b) := by
  unfold partnerTripped
  cases hg : e.partner f with
  | none => exact ⟨y, c, hy, h, .inl rfl, fun _ => rfl, haf, by simp⟩
  | some g =>
    dsimp only
    have hgf : g ≠ f := by rintro rfl; exact hp hg
    by_cases hlive : ∃ z, b.feeder? g = some z ∧ z.Live
    · obtain ⟨z, hz, hl⟩ := hlive
      obtain ⟨u, d, w, hu, hut, hd, hapf, hw, hwi, hapg⟩ := tripLive_intertrip hgf hy h hz hl haf (hag g z hg hz hl)
      refine ⟨u, d, hu, hut, hd.imp_right And.left, fun hc => ?_, hapf, ?_⟩
      · exact hd.resolve_right fun ⟨_, ho⟩ => by simp [hc g z rfl hz hl] at ho
      · rintro _ z' ⟨⟩ hz' -
        obtain rfl : z = z' := Option.some.inj (hz.symm.trans hz')
        exact ⟨w, hw, hwi, hapg⟩
    · have ht : tripLive e g .intertrip b = b := by
        unfold tripLive
        split
        · rfl
        next z hz => exact if_neg fun hl => hlive ⟨z, hz, (live_iff z).1 hl⟩
      rw [ht]
      exact ⟨y, c, hy, h, .inl rfl, fun _ => rfl, haf, by
        rintro _ z ⟨⟩ hz hl
        exact absurd ⟨z, hz, hl⟩ hlive⟩

/-! ## A trip by PU (R67, R68) -/

/-- A cause with which PU trips a feeder. -/
structure ByPu (c : Cause) : Prop where
  notCommand : c ≠ .command
  notPermit : c ≠ .permit
  notVehicle : c ≠ .vehicle

/-- A trip of `f`, whose record was `x`, has been taken with cause `c`: its own record, PU's values but for step state and stale
timer as they were, and its partner's. -/
structure TripTaken (s : State) (f : Nat) (x : Feeder) (c : Cause) (d : Blocks) : Prop where
  own : ∃ y, d.feeder? f = some y ∧ y.pu = tripPu x ∧ PuTripped s f x c y
  partner : PartnerIntertripped s f d

theorem tripPu_step (x : Feeder) (h : x.state = .closed) : (tripPu x).step = none := if_pos h

/-- Feeder `f` TRIPPING until its contact opens. -/
theorem puTripped_of_tripped {s : State} {f : Nat} (h : Tripped s.env x d (decide (x.state = .closing)) y)
    (ho : s.env.aux f = .closed) (hd : d = c ∨ d = .partner)
    (hc : (∀ g z, s.env.partner f = some g → s.blocks.feeder? g = some z → z.Live → s.env.aux g = .closed) → d = c) :
    PuTripped s f x c y where
  coils := ⟨h.close, iff_of_true h.trip ho⟩
  stale := by rw [h.pu]; rfl
  step hx := by rw [h.pu]; exact tripPu_step x hx
  trips _ := ⟨h.state, h.mark, h.timer, by rw [h.cause]; simpa using hd, fun hp => by rw [h.cause, hc hp]⟩
  locks hn := by simp [ho] at hn

/-- The trip of feeder `f` over at once. -/
theorem puTripped_of_over {s : State} {f : Nat} {k : Cause} (h : TripOver s.env x st k y) (ho : s.env.aux f = .opened)
    (hm : x.state = .closing → st = .lockout ∧ k = .closeOntoFault) : PuTripped s f x c y where
  coils := ⟨h.close, iff_of_false (by simp [h.trip]) (by simp [ho])⟩
  stale := by rw [h.pu]; rfl
  step hx := by rw [h.pu]; exact tripPu_step x hx
  trips hn := by simp [ho] at hn
  locks _ hx := by
    obtain ⟨rfl, rfl⟩ := hm hx
    exact ⟨h.state, h.cause, h.mark, h.timer⟩

/-- What a partner's record shows of an intertrip, the trip of `f` having ended or not (R68, R70, R81). -/
def ShowsIntertrip (s : State) (f g : Nat) (z w : Feeder) : Prop :=
  w.closeCoil = false ∧
    (s.env.aux g = .closed → w.state = .tripping ∧ w.tripCoil = true ∧ w.stateTimer = some ⟨s.time, z.conn.settings.tTrip⟩ ∧
      (w.cause = some .intertrip ∨ w.cause = some .partner) ∧ (s.env.aux f = .closed → w.cause = some .intertrip)) ∧
    (s.env.aux g = .opened → w.tripCoil = false ∧
      ((w.state = openIntertrip s.blocks z ∧ w.cause = some .intertrip) ∨ (w.state = .lockout ∧ w.cause = some .partner)) ∧
      (s.env.aux f = .closed → w.cause = some .intertrip))

theorem partnerIntertripped_iff (s : State) (f : Nat) (d : Blocks) : PartnerIntertripped s f d ↔
    ∀ g z, s.env.partner f = some g → s.blocks.feeder? g = some z → z.Live →
      ∃ w, d.feeder? g = some w ∧ ShowsIntertrip s f g z w := Iff.rfl

/-- The trip of `f` is not over: nothing has befallen the partner since its intertrip. -/
theorem Intertripped.shows {s : State} {f g : Nat} (h : Intertripped s.env s.blocks g z w) : ShowsIntertrip s f g z w := by
  cases hg : s.env.aux g with
  | closed =>
    have k := h.closed hg
    exact ⟨k.close, fun _ => ⟨k.state, k.trip, k.timer, .inl k.cause, fun _ => k.cause⟩, fun hn => by simp [hg] at hn⟩
  | opened =>
    have k := h.opened hg
    exact ⟨k.close, fun hn => by simp [hg] at hn, fun _ => ⟨k.trip, .inl ⟨k.state, k.cause⟩, fun _ => k.cause⟩⟩

/-- The trip of `f` is over: the partner may have lost its leader by it. -/
theorem showsIntertrip_after {s : State} {b : Blocks} {f g : Nat} (hgf : g ≠ f) (hy : b.feeder? f = some y)
    (h : Tripped s.env x c mark y) (hc : c ≠ .vehicle) (ho : s.env.aux f = .opened) (hw : b.feeder? g = some w)
    (k : Intertripped s.env s.blocks g z w) (ha : Apart g b) :
    ∃ w', (settleTrip s.env f b).feeder? g = some w' ∧ ShowsIntertrip s f g z w' := by
  have hnf : s.env.aux f ≠ .closed := by simp [ho]
  cases hg : s.env.aux g with
  | closed =>
    obtain ⟨w', d, hw', t, hd, -⟩ := settleTrip_other_tripped hgf hy h hc ho hw (k.closed hg) ha
    refine ⟨w', hw', t.close, fun _ => ⟨t.state, t.trip, t.timer, ?_, fun hn => absurd hn hnf⟩, fun hn => by simp [hg] at hn⟩
    rw [t.cause]
    simpa using hd
  | opened =>
    obtain ⟨w', hw', t⟩ := settleTrip_other_over hgf hy h hc ho hw (k.opened hg) (openIntertrip_rests _ _) ha
    refine ⟨w', hw', ?_⟩
    rcases t with t | t
    · exact ⟨t.close, fun hn => by simp [hg] at hn, fun _ => ⟨t.trip, .inl ⟨t.state, t.cause⟩, fun hn => absurd hn hnf⟩⟩
    · exact ⟨t.close, fun hn => by simp [hg] at hn, fun _ => ⟨t.trip, .inr ⟨t.state, t.cause⟩, fun hn => absurd hn hnf⟩⟩

/-- The records once `f` is TRIPPING and its live partner intertripped, the trip of `f` not yet over. -/
theorem entered_records {s : State} {f : Nat} (i : Option Sample) (hx : s.blocks.feeder? f = some x)
    (hp : s.env.partner f ≠ some f) (haf : Apart f s.blocks)
    (hag : ∀ g z, s.env.partner f = some g → s.blocks.feeder? g = some z → z.Live → Apart g s.blocks) {b : Blocks}
    (hb : b = partnerTripped s.env f (enterTripping s.env f c mark i [] s.blocks)) :
    ∃ u d, b.feeder? f = some u ∧ Tripped s.env x d mark u ∧ (d = c ∨ d = .partner) ∧
      ((∀ g z, s.env.partner f = some g → s.blocks.feeder? g = some z → z.Live → s.env.aux g = .closed) → d = c) ∧
      Apart f b ∧
      ∀ g z, s.env.partner f = some g → s.blocks.feeder? g = some z → z.Live →
        ∃ w, b.feeder? g = some w ∧ Intertripped s.env s.blocks g z w ∧ Apart g b := by
  subst hb
  set b₁ := enterTripping s.env f c mark i [] s.blocks
  obtain ⟨y, hy, hty⟩ := enterTripping_feeder s.env c mark i [] hx
  have hwait : b₁.sq.waiting = s.blocks.sq.waiting := enterTripping_waiting ..
  have hin : ∀ sec, b₁.inhibit sec = s.blocks.inhibit sec :=
    inhibit_of_recordsKept ((RecordsKept.refl s.blocks).enterTripping s.env f c _ i [])
  have others (g : Nat) (hg : s.env.partner f = some g) : Kept Alike (s.blocks.feeder? g) (b₁.feeder? g) :=
    enterTripping_other s.env c _ i [] _ fun hgf => hp (hgf ▸ hg)
  have live_was (g : Nat) (z : Feeder) (hg : s.env.partner f = some g) (hz : b₁.feeder? g = some z) (hl : z.Live) :
      ∃ z', s.blocks.feeder? g = some z' ∧ z'.Live := by
    have k := others g hg
    rw [hz] at k
    obtain ⟨z', hz', hal⟩ := kept_some_right k
    exact ⟨z', hz', by rw [hal] at hl; exact hl⟩
  obtain ⟨u, d, hu, htu, hd, hdc, hau, partner⟩ := partnerTripped_records hp hy hty (haf.of_waiting hwait)
    fun g z hg hz hl => by
      obtain ⟨z', hz', hl'⟩ := live_was g z hg hz hl
      exact (hag g z' hg hz' hl').of_waiting hwait
  refine ⟨u, d, hu, htu, hd, fun hall => hdc fun g z hg hz hl => ?_, hau, fun g z hg hz hl => ?_⟩
  · obtain ⟨z', hz', hl'⟩ := live_was g z hg hz hl
    exact hall g z' hg hz' hl'
  · have k := others g hg
    rw [hz] at k
    obtain ⟨z₁, hz₁, hal⟩ := kept_some k
    obtain ⟨w, hw, hwi, hap⟩ := partner g z₁ hg hz₁ (by rw [hal]; exact hl)
    exact ⟨w, hw, hwi.of_alike hal hin, hap⟩

/-- A trip by PU of a live feeder: R68 and R69 for it, an intertrip for its live partner, and R70 where a contact reads OPEN. -/
theorem takeTrip_taken {s : State} {f : Nat} (i : Option Sample) (hx : s.blocks.feeder? f = some x) (hl : x.Live)
    (hp : s.env.partner f ≠ some f) (hc : ByPu c) (haf : Apart f s.blocks)
    (hag : ∀ g z, s.env.partner f = some g → s.blocks.feeder? g = some z → z.Live → Apart g s.blocks) :
    TripTaken s f x c (takeTrip s.env f c i s.blocks) := by
  rw [takeTrip_of_live i hx hl]
  obtain ⟨u, d, hu, htu, hd, hdc, hau, partner⟩ := entered_records (c := c) i hx hp haf hag rfl
  cases ho : s.env.aux f with
  | closed =>
    rw [settleTrip_of_closed _ _ ho]
    refine ⟨⟨u, hu, htu.pu, puTripped_of_tripped htu ho hd hdc⟩, (partnerIntertripped_iff ..).2 fun g z hg hz hl => ?_⟩
    obtain ⟨w, hw, hwi, -⟩ := partner g z hg hz hl
    exact ⟨w, hw, hwi.shows⟩
  | opened =>
    have hdn : d ≠ .command ∧ d ≠ .permit ∧ d ≠ .vehicle := by
      rcases hd with rfl | rfl
      · exact ⟨hc.notCommand, hc.notPermit, hc.notVehicle⟩
      · simp
    obtain ⟨v, hv, hover, -⟩ := settleTrip_own hu htu hdn.2.2 hau ho
    refine ⟨⟨v, hv, hover.pu, puTripped_of_over hover ho fun hx => ?_⟩,
      (partnerIntertripped_iff ..).2 fun g z hg hz hl => ?_⟩
    · rw [afterTrip_marked (htu.mark.trans (decide_eq_true hx)) hdn.1 hdn.2.1]
      exact ⟨rfl, rfl⟩
    · obtain ⟨w, hw, hwi, hap⟩ := partner g z hg hz hl
      exact showsIntertrip_after (fun hgf => hp (hgf ▸ hg)) hu htu hdn.2.2 ho hw hwi hap

end Sys2Proof.Machine.Protection

namespace Sys2Proof.Machine.Protection

open Sys2Proof Sys2Proof.Machine

variable {b d : Blocks} {s : State} {f : Nat} {x x' y z : Feeder} {c : Cause}

/-! ## A trip taken within a command -/

/-- The blocks on which a command comes to trip `f`: PU has written values of its own in the record `x` of `f`, now `x'`, and
nothing else of Feeder Control is written. -/
structure Prepared (s : State) (f : Nat) (x x' : Feeder) (b : Blocks) : Prop where
  before : s.blocks.feeder? f = some x
  feeder : b.feeder? f = some x'
  state : x'.state = x.state
  conn : x'.conn = x.conn
  others : ∀ g, g ≠ f → b.feeder? g = s.blocks.feeder? g
  sections : b.sections = s.blocks.sections
  waiting : b.sq.waiting = s.blocks.sq.waiting

/-- PU's own writes of the record of `f`. -/
theorem Prepared.setFeeder (hx : b.feeder? f = some x) (hf : b.feeders = s.blocks.feeders)
    (hs : b.sections = s.blocks.sections) (hw : b.sq.waiting = s.blocks.sq.waiting) (p : Pu) :
    Prepared s f x { x with pu := p } (b.setFeeder f { x with pu := p }) where
  before := by rw [Blocks.feeder?, ← hf]; exact hx
  feeder := Blocks.feeder?_setFeeder_self b f x _ hx
  state := rfl
  conn := rfl
  others g hg := by
    rw [Blocks.feeder?_setFeeder_ne b f g _ hg, Blocks.feeder?, hf]; rfl
  sections := hs
  waiting := hw

/-- A feeder that waits for an insert place is neither CLOSING nor CLOSED. -/
theorem apart_of_live (hw : WaitersWait s) (hx : s.blocks.feeder? f = some x) (hl : x.Live) : Apart f s.blocks := by
  rintro w hw' rfl
  obtain ⟨y, hy, hs⟩ := hw.2 w hw'
  obtain rfl : x = y := Option.some.inj (hx.symm.trans hy)
  rcases hl with hl | hl <;> rw [hl] at hs <;> simp at hs

theorem openIntertrip_congr (h : b.sections = d.sections) (z : Feeder) : openIntertrip b z = openIntertrip d z := by
  unfold openIntertrip Blocks.section?
  rw [h]

/-- A trip by PU that a command takes on its way. -/
theorem Prepared.takeTrip (h : Prepared s f x x' b) (i : Option Sample) (hl : x.Live) (hp : s.env.partner f ≠ some f)
    (hw : WaitersWait s) (hc : ByPu c) :
    ∃ y, (takeTrip s.env f c i b).feeder? f = some y ∧ y.pu = tripPu x' ∧ PuTripped s f x c y ∧
      PartnerIntertripped s f (takeTrip s.env f c i b) := by
  have hl' : x'.Live := by unfold Feeder.Live; rw [h.state]; exact hl
  have part {g : Nat} (hg : s.env.partner f = some g) : b.feeder? g = s.blocks.feeder? g :=
    h.others g fun hgf => hp (hgf ▸ hg)
  have apart {g : Nat} {z : Feeder} (hz : s.blocks.feeder? g = some z) (hl : z.Live) : Apart g b :=
    (apart_of_live hw hz hl).of_waiting h.waiting
  obtain ⟨⟨y, hy, hpu, hown⟩, hpart⟩ := takeTrip_taken (s := { s with blocks := b }) i h.feeder hl' hp hc
    (apart h.before hl) fun g z hg hz hzl => apart ((part hg).symm.trans hz) hzl
  refine ⟨y, hy, hpu, ⟨hown.coils, hown.stale, fun hx => hown.step (h.state.trans hx), fun hcl => ?_,
    fun ho hx => hown.locks ho (h.state.trans hx)⟩, fun g z hg hz hzl => ?_⟩
  · obtain ⟨h₁, h₂, h₃, h₄, h₅⟩ := hown.trips hcl
    rw [h.state] at h₂
    rw [h.conn] at h₃
    exact ⟨h₁, h₂, h₃, h₄, fun hall => h₅ fun g z hg hz => hall g z hg ((part hg).symm.trans hz)⟩
  · have hk := hpart g z hg ((part hg).trans hz) hzl
    rwa [show openIntertrip ({ s with blocks := b } : State).blocks z = openIntertrip s.blocks z from
      openIntertrip_congr h.sections z] at hk

/-- What follows a trip in the same event writes live-on-isolated armings alone. -/
theorem PuTripped.alike (h : PuTripped s f x c y) (k : Alike y z) : PuTripped s f x c z := by
  rw [k]; exact ⟨h.coils, h.stale, h.step, h.trips, h.locks⟩

theorem PartnerIntertripped.alike (h : PartnerIntertripped s f b) (k : AllAlike b d) : PartnerIntertripped s f d := by
  intro g z hg hz hl
  obtain ⟨w, hw, hk⟩ := h g z hg hz hl
  have ha := k g
  rw [hw] at ha
  obtain ⟨w', hw', ha⟩ := kept_some ha
  refine ⟨w', hw', ?_⟩
  rw [ha]
  exact hk

theorem byPu_degraded : ByPu .degraded := ⟨by simp, by simp, by simp⟩

/-! ## The stale timer (R55, R56) -/

/-- The record of a feeder whose stale timer is stopped. -/
def unstale (x : Feeder) : Feeder := { x with pu := { x.pu with stale := none } }

theorem staleExpires_of_due {y : Timer} (hx : s.blocks.feeder? f = some x) (hy : x.pu.stale = some y)
    (hd : y.setting ≤ (s.time - y.start).toNat) :
    staleExpires f s.env s.blocks = degraded s.env f .stale none (s.blocks.setFeeder f (unstale x)) := by
  have hdue : timerDue x.pu.stale s.env.time = true := by
    rw [hy]; exact decide_eq_true hd
  unfold staleExpires
  rw [hx]
  dsimp only
  rw [if_pos hdue]
  exact congrArg _ (amendFeeder_of_feeder hx _)

theorem staleExpires_of_not_due (hx : s.blocks.feeder? f = some x)
    (hd : ∀ y, x.pu.stale = some y → (s.time - y.start).toNat < y.setting) : staleExpires f s.env s.blocks = s.blocks := by
  have hdue : timerDue x.pu.stale s.env.time = false := by
    cases hy : x.pu.stale with
    | none => rfl
    | some y => exact decide_eq_false (by have := hd y hy; exact not_le.2 this)
  unfold staleExpires
  rw [hx]
  dsimp only
  rw [hdue]
  exact if_neg (by simp)

/-- Policy HOLD: the degraded notice is spent (R56). -/
theorem degraded_of_hold (e : Env) {i : Option Sample} {r : DegradeReason} (hx : b.feeder? f = some x)
    (hp : x.conn.settings.policy = .hold) :
    degraded e f r i b = (if x.pu.degradeArmed then
      say e (.protectionDegraded f r x.pu.invalidRun) (b.setFeeder f { x with pu := { x.pu with degradeArmed := false } })
      else b) := by
  unfold degraded
  rw [hx]
  dsimp only
  rw [hp]

theorem degraded_feeder_of_hold (e : Env) {i : Option Sample} {r : DegradeReason} (hx : b.feeder? f = some x)
    (hp : x.conn.settings.policy = .hold) :
    (degraded e f r i b).feeder? f = some { x with pu := { x.pu with degradeArmed := false } } := by
  rw [degraded_of_hold e hx hp]
  split
  · exact Blocks.feeder?_setFeeder_self b f x _ hx
  next ha => rw [hx, ← Bool.eq_false_iff.2 ha]

theorem degraded_other_of_hold (e : Env) {i : Option Sample} {r : DegradeReason} {g : Nat} (hx : b.feeder? f = some x)
    (hp : x.conn.settings.policy = .hold) (hg : g ≠ f) : (degraded e f r i b).feeder? g = b.feeder? g := by
  rw [degraded_of_hold e hx hp]
  split
  · exact Blocks.feeder?_setFeeder_ne b f g _ hg
  · rfl

/-- Policy TRIP: a trip with cause DEGRADED (R56). -/
theorem degraded_of_trip (e : Env) {i : Option Sample} {r : DegradeReason} (hx : b.feeder? f = some x)
    (hp : x.conn.settings.policy = .trip) : degraded e f r i b = takeTrip e f .degraded i b := by
  unfold degraded
  rw [hx]
  dsimp only
  rw [hp]

theorem takeTrip_of_not_live (e : Env) (i : Option Sample) (hx : b.feeder? f = some x) (hl : ¬ x.Live) :
    takeTrip e f c i b = b := by
  unfold takeTrip
  rw [hx]
  exact if_neg fun h => hl ((live_iff x).1 h)

theorem degraded_points (e : Env) (r : DegradeReason) (i : Option Sample) (b : Blocks) :
    PointsLast b (degraded e f r i b) := by
  unfold degraded
  split
  · exact .refl b
  · split
    · exact (ActsOn.takeTrip e f _ i b).points
    · exact .ite ((PointsLast.refl b).same rfl) (.refl b)

/-- What every write of a record leaves of it. -/
theorem map_of_kept {α β : Type} {r : α → α → Prop} {o o' : Option α} {g : α → β} (h : Kept r o o')
    (hg : ∀ x y, r x y → g y = g x) : o'.map g = o.map g := by
  cases h with
  | none => rfl
  | some h => exact congrArg some (hg _ _ h)

/-- What no event of Feeder Control writes. -/
theorem eventFrame_of {b d : Blocks} (he : FeederEvents b d) (hr : RecordsKept b d) (hp : PointsLast b d) :
    EventFrame b d where
  toFeederEvents := he
  feeders f := map_of_kept (hr.feeders f) fun x y h => by rw [h.conn, h.theta, h.offset]
  sections sec := map_of_kept (hr.sections sec) fun x y h => by rw [h.occupancy, h.inhibit, h.permits]
  points pt := map_of_kept (hp pt) fun x y h => h

theorem staleExpires_frame {y : Timer} (hx : s.blocks.feeder? f = some x) (hy : x.pu.stale = some y)
    (hd : y.setting ≤ (s.time - y.start).toNat) : EventFrame s.blocks (staleExpires f s.env s.blocks) := by
  refine eventFrame_of ((FeederEvents.refl _).staleExpires s.env f) ((RecordsKept.refl _).staleExpires s.env f) ?_
  rw [staleExpires_of_due hx hy hd]
  have stopped : PointsLast s.blocks (s.blocks.setFeeder f (unstale x)) := (PointsLast.refl _).same rfl
  exact stopped.trans (degraded_points s.env _ _ _)

/-- The command of a stale timer that has run out. -/
theorem staleTimer_degrades (hrun : s.mode = .run) (hx : s.blocks.feeder? f = some x) {y : Timer}
    (hy : x.pu.stale = some y) (hd : y.setting ≤ (s.time - y.start).toNat) :
    ∃ t, exec (.staleTimerExpiry f) s = .next t ∧ OnlyBlocks s t ∧ EventFrame s.blocks t.blocks ∧
      t.blocks = degraded s.env f .stale none (s.blocks.setFeeder f (unstale x)) := by
  have hex : exec (.staleTimerExpiry f) s = .next { s with blocks := staleExpires f s.env s.blocks } :=
    congrArg Host.Outcome.next (State.inRun_run _ s hrun)
  exact ⟨_, hex, rfl, staleExpires_frame hx hy hd, staleExpires_of_due hx hy hd⟩

/-! ## INVALID samples in a row (R45) -/

/-- The record of a feeder once an INVALID sample is counted. -/
def counted (x : Feeder) : Feeder := { x with pu := { x.pu with invalidRun := min 255 (x.pu.invalidRun + 1) } }

theorem currentSample_of_invalid_eq (e : Env) {i : Sample} (hx : b.feeder? f = some x) (hi : i.cls = .invalid) :
    currentSample e f i b = if x.Live ∧ 3 ≤ min 255 (x.pu.invalidRun + 1) then
      degraded e f .invalid (some i) (b.setFeeder f (counted x)) else b.setFeeder f (counted x) := by
  rw [currentSample_of_invalid e hx hi]
  simp only [live_iff]
  rfl

/-- The command that ends the walk's conversion of a feeder's current channel with an INVALID sample. -/
theorem invalidSample_taken {tr : Conversion} {en : ScanEntry} {i : Instr} {code : Int} {valid : Bool}
    {presence : Vector Presence 6} (hw : Walking s tr en) (ho : OwnsCurrent s.blocks f x)
    (hc : x.conn.currentCh = tr.channel) (h : ConversionEnds s tr i code valid presence)
    (hi : (sampleAt s.blocks tr.channel valid code).cls = .invalid) :
    ∃ b d t, SampleArrives s b ∧ exec i s = .next t ∧ OnlyBlocks s t ∧ AllAlike d t.blocks ∧
      (∀ g, t.blocks.feeder? g = d.feeder? g) ∧ Notified d.po t.blocks.po ∧
      d = currentSample s.env f (sampleAt s.blocks tr.channel valid code) b := by
  obtain ⟨b, t, hb, hex, hob, ht⟩ := walk_hands_sample hw ho hc h
  refine ⟨b, _, t, hb, hex, hob, ?_, fun g => ?_, ?_, rfl⟩ <;> rw [ht]
  · exact afterSample_alike _ _ _ _ _
  · exact afterSample_feeder_of_invalid _ _ _ _ hi g
  · exact afterSample_notified ..

/-- Settles O43: a stale timer that has run out, or an INVALID sample, gives DEGRADED, a trip of PU or a spent notice. -/
theorem staleTimersDegrade : Obligations.StaleTimersDegrade := by
  refine ⟨fun f s x hrun hx => ⟨fun hd => ?_, fun y hy hd => ?_⟩, ?_⟩
  · have hex : exec (.staleTimerExpiry f) s = .next { s with blocks := staleExpires f s.env s.blocks } :=
      congrArg Host.Outcome.next (State.inRun_run _ s hrun)
    rw [hex, staleExpires_of_not_due hx hd]
  · obtain ⟨t, hex, hob, hfr, ht⟩ := staleTimer_degrades hrun hx hy hd
    have hprep : Prepared s f x (unstale x) (s.blocks.setFeeder f (unstale x)) := .setFeeder hx rfl rfl rfl _
    refine ⟨t, hex, hob, hfr, fun hp => ⟨?_, fun g hg => ?_, ?_⟩, fun hp hl hpa hw => ?_, fun hp h₁ h₂ => ?_⟩
    · rw [ht, degraded_feeder_of_hold s.env hprep.feeder hp]
      rfl
    · rw [ht, degraded_other_of_hold s.env hprep.feeder hp hg, hprep.others g hg]
    · rw [ht, degraded_of_hold s.env hprep.feeder hp, apply_ite Blocks.po]
      rfl
    · rw [ht, degraded_of_trip s.env hprep.feeder hp]
      obtain ⟨z, hz, -, hown, hpart⟩ := hprep.takeTrip none hl hpa hw byPu_degraded
      exact ⟨⟨z, hz, hown⟩, hpart⟩
    · rw [ht, degraded_of_trip s.env hprep.feeder hp,
        takeTrip_of_not_live s.env none hprep.feeder (not_or.2 ⟨h₁, h₂⟩)]
      rfl
  · intro f s x tr en i code valid presence hw ho hc h hi
    obtain ⟨b, d, t, hb, hex, hob, hal, hsame, hpo, hd⟩ := invalidSample_taken hw ho hc h hi
    have hx : b.feeder? f = some x := (hb.feeder f).trans ho.1
    have hprep : Prepared s f x (counted x) (b.setFeeder f (counted x)) :=
      .setFeeder hx hb.feeders hb.sections hb.waiting _
    rw [currentSample_of_invalid_eq s.env hx hi] at hd
    refine ⟨t, hex, hob, fun hn => ?_, fun hl h3 hp => ?_, fun hl h3 hp hpa hww => ?_⟩
    · rw [if_neg fun hk => hn.elim (· hk.1) fun h3 => by omega] at hd
      rw [hsame, hd, hprep.feeder]
      rfl
    · rw [if_pos ⟨hl, h3⟩] at hd
      refine ⟨?_, fun ha => notifiedOf_between hb.po ?_⟩
      · rw [hsame, hd, degraded_feeder_of_hold s.env hprep.feeder hp]
        rfl
      · rw [degraded_of_hold s.env hprep.feeder hp, if_pos (by exact ha)] at hd
        rw [hd] at hpo
        exact hpo
    · rw [if_pos ⟨hl, h3⟩, degraded_of_trip s.env hprep.feeder hp] at hd
      obtain ⟨z, hz, hpu, hown, hpart⟩ := hprep.takeTrip (some (sampleAt s.blocks tr.channel valid code)) hl hpa hww
        byPu_degraded
      rw [← hd] at hz hpart
      refine ⟨z, (hsame f).trans hz, ?_, ?_, ?_, hown, PartnerIntertripped.alike hpart hal⟩ <;> rw [hpu] <;> rfl

end Sys2Proof.Machine.Protection

namespace Sys2Proof.Machine.Protection

open Sys2Proof Sys2Proof.Machine

variable {b d : Blocks} {s : State} {f : Nat} {x y : Feeder} {c : Cause} {i : Sample}

/-! ## The criteria of a current sample (R49 to R54, R67) -/

/-- The history ring answers `w` places back as its sixteen newest entries stand (R46, R52). -/
theorem ringBack_pushRing (ring : List RingEntry) (r : RingEntry) (w : Nat) :
    ringBack (pushRing ring r) w = if w < 16 then (ring ++ [r]).reverse[w]? else none := by
  unfold ringBack pushRing
  rw [List.reverse_drop, List.getElem?_take]
  have hmax : Config.ringMax = 16 := rfl
  rw [hmax]
  by_cases hw : w < 16
  · rw [if_pos hw]
    split_ifs with hl
    · rfl
    · exact (List.getElem?_eq_none (by rw [List.length_reverse]; omega)).symm
  · rw [if_neg hw, if_neg (by omega)]

/-- STEP is met by an armed step of CLOSED that has held its level for T_step (R53). -/
def StepMet (e : Env) (x : Feeder) (i : Sample) : Prop :=
  x.state = .closed ∧ ∃ a, x.pu.step = some a ∧ a.holdLevel ≤ i.value ∧ x.conn.settings.tStep ≤ (e.time - a.armTime).toNat

/-- The step state a sample leaves, and whether STEP is met (R52 to R54). -/
def stepAfter (e : Env) (x : Feeder) (i : Sample) : Option StepArm × Bool :=
  if x.state = .closed then stepCriterion x.conn.settings (pushRing x.pu.ring ⟨i.value, e.time⟩) x.pu.step e.time i.value
  else (x.pu.step, false)

theorem stepAfter_met_iff (e : Env) (x : Feeder) (i : Sample) : (stepAfter e x i).2 = true ↔ StepMet e x i := by
  unfold stepAfter StepMet stepCriterion
  by_cases hs : x.state = .closed
  · rw [if_pos hs]
    cases hp : x.pu.step with
    | none => simp
    | some a =>
      dsimp only
      split_ifs with h
      · simp [hs]; omega
      · have hv : a.holdLevel ≤ i.value := by omega
        rw [decide_eq_true_iff]
        exact ⟨fun ht => ⟨hs, a, rfl, hv, ht⟩, fun ⟨_, _, ha, _, ht⟩ => Option.some.inj ha ▸ ht⟩
  · simp [hs]

theorem stepAfter_of_not_closed (e : Env) (i : Sample) (h : x.state ≠ .closed) : (stepAfter e x i).1 = x.pu.step := by
  simp [stepAfter, h]

/-- An armed step drops below its hold level (R53). -/
theorem stepAfter_of_armed (e : Env) (i : Sample) {a : StepArm} (h : x.state = .closed) (ha : x.pu.step = some a) :
    (stepAfter e x i).1 = if i.value < a.holdLevel then none else some a := by
  unfold stepAfter stepCriterion
  rw [if_pos h, ha]
  dsimp only
  split_ifs <;> rfl

theorem stepAfter_of_disarmed (e : Env) (i : Sample) (h : x.state = .closed) (ha : x.pu.step = none) :
    (stepAfter e x i).1 =
      armStep x.conn.settings (pushRing x.pu.ring ⟨i.value, e.time⟩) e.time i.value := by
  unfold stepAfter stepCriterion
  rw [if_pos h, ha]

/-- A disarmed step arms on a rise of ΔI_set over the sample `w` places back (R52). -/
theorem stepAfter_arms (e : Env) (i : Sample) {old : RingEntry} (h : x.state = .closed) (ha : x.pu.step = none)
    (hw : x.conn.settings.w < 16)
    (hb : (x.pu.ring ++ [(⟨i.value, e.time⟩ : RingEntry)]).reverse[x.conn.settings.w]? = some old)
    (hd : x.conn.settings.dIset ≤ i.value - old.value) :
    (stepAfter e x i).1 = some ⟨old.value, old.value + x.conn.settings.dIset / 2, e.time⟩ := by
  rw [stepAfter_of_disarmed e i h ha, armStep, ringBack_pushRing, if_pos hw, hb]
  exact if_pos hd

theorem stepAfter_stays_disarmed (e : Env) (i : Sample) (h : x.state = .closed) (ha : x.pu.step = none)
    (hn : ∀ old, x.conn.settings.w < 16 →
      (x.pu.ring ++ [(⟨i.value, e.time⟩ : RingEntry)]).reverse[x.conn.settings.w]? = some old →
      i.value - old.value < x.conn.settings.dIset) : (stepAfter e x i).1 = none := by
  rw [stepAfter_of_disarmed e i h ha, armStep, ringBack_pushRing]
  split
  · rfl
  next old hb =>
    have hw : x.conn.settings.w < 16 := by
      by_contra hw
      rw [if_neg hw] at hb
      cases hb
    rw [if_pos hw] at hb
    exact if_neg (by have := hn old hw hb; omega)

/-- The first criterion met, in R67's order, names the cause. -/
theorem tripCause_eq_some_iff (x : Settings) (i : Sample) (met : Bool) (theta : Int) (c : Cause) :
    tripCause x i met theta = some c ↔
      (c = .inst ∧ meetsInst x i) ∨ (c = .reverse ∧ ¬ meetsInst x i ∧ meetsReverse x i) ∨
      (c = .step ∧ ¬ meetsInst x i ∧ ¬ meetsReverse x i ∧ met) ∨
      (c = .thermal ∧ ¬ meetsInst x i ∧ ¬ meetsReverse x i ∧ ¬ met ∧ meetsThermal x theta) := by
  unfold tripCause
  rw [@eq_comm _ _ (some c)]
  split_ifs with h₁ h₂ h₃ h₄
  · simp [h₁]
  · simp [h₁, h₂]
  · simp [h₁, h₂, h₃]
  · simp [h₁, h₂, h₃, h₄]
  · simp [h₁, h₂, h₃, h₄]

theorem tripCause_eq_none_iff (x : Settings) (i : Sample) (met : Bool) (theta : Int) :
    tripCause x i met theta = none ↔ ¬ meetsInst x i ∧ ¬ meetsReverse x i ∧ ¬ met ∧ ¬ meetsThermal x theta := by
  unfold tripCause
  split_ifs with h₁ h₂ h₃ h₄ <;> simp [*]

theorem byPu_of_tripCause {x : Settings} {met : Bool} {theta : Int} (h : tripCause x i met theta = some c) : ByPu c := by
  rw [tripCause_eq_some_iff] at h
  rcases h with ⟨rfl, -⟩ | ⟨rfl, -⟩ | ⟨rfl, -⟩ | ⟨rfl, -⟩ <;> exact ⟨by simp, by simp, by simp⟩

/-! ## A sample of a live feeder -/

/-- COOLING ends for no live feeder (R48). -/
theorem cooled_of_live (e : Env) (hx : b.feeder? f = some x) (hl : x.Live) : cooled e f b = b := by
  unfold cooled
  refine if_neg ?_
  unfold feederIn
  rw [hx]
  rcases hl with hl | hl <;> simp [hl]

/-- The record of a live feeder once a sample has moved θ and the step state (R44). -/
def judged (e : Env) (x : Feeder) (i : Sample) : Feeder :=
  { x with pu := { (sampled e x i).pu with step := (stepAfter e x i).1 } }

/-- A sample of a live feeder: the records of ring, θ and step state, and a trip with the first criterion met (R44, R67). -/
theorem currentSample_of_live (e : Env) (hx : b.feeder? f = some x) (hi : i.cls ≠ .invalid) (hl : x.Live) :
    currentSample e f i b =
      match tripCause x.conn.settings i (stepAfter e x i).2 (nextTheta x i) with
      | none => (withSampled e f x i b).setFeeder f (judged e x i)
      | some c => takeTrip e f c (some i) ((withSampled e f x i b).setFeeder f (judged e x i)) := by
  have hs := withSampled_feeder? e i hx
  rw [currentSample_of_value e hx hi, cooled_of_live e hs hl, ite_self]
  unfold testCriteria
  rw [hs]
  exact if_pos ((live_iff x).2 hl)

theorem Prepared.judged (hb : SampleArrives s b) (hx : s.blocks.feeder? f = some x) (i : Sample) :
    Prepared s f x (judged s.env x i) ((withSampled s.env f x i b).setFeeder f (judged s.env x i)) where
  before := hx
  feeder := Blocks.feeder?_setFeeder_self _ f _ _ (withSampled_feeder? s.env i ((hb.feeder f).trans hx))
  state := rfl
  conn := rfl
  others g hg := by
    rw [Blocks.feeder?_setFeeder_ne _ f g _ hg, withSampled_feeder?_ne s.env x i hg, hb.feeder]
  sections := (withSampled_sections ..).trans hb.sections
  waiting := (congrArg Sq.waiting (withSampled_sq ..)).trans hb.waiting

/-- Settles O42: a trip with the first criterion met, or the step state moved (`currentSample_of_live`). -/
theorem currentSamplesTripByTheFirstCriterion : Obligations.CurrentSamplesTripByTheFirstCriterion := by
  intro s tr en f x bytes code hw ho hc ha hl hpa hww v set theta inst reverse stepMet thermal back
  obtain ⟨b, t, hb, hex, hob, ht⟩ := walk_hands_sample hw ho hc (.inl ⟨bytes, rfl, ha, rfl⟩)
  have hv : v.cls ≠ .invalid := fun hn => by simpa using (classify_invalid_iff _ _ _ _).1 hn
  have hx : b.feeder? f = some x := (hb.feeder f).trans ho.1
  have hprep := Prepared.judged hb ho.1 v
  have hal : AllAlike (currentSample s.env f v b) t.blocks := by
    rw [ht]; exact afterSample_alike _ _ _ _ _
  have hcs := currentSample_of_live s.env hx hv hl
  have hmet : (stepAfter s.env x v).2 = true ↔ stepMet := stepAfter_met_iff s.env x v
  have hinst : meetsInst set v = true ↔ inst := decide_eq_true_iff
  have hrev : meetsReverse set v = true ↔ reverse := decide_eq_true_iff
  have hthermal : meetsThermal set (nextTheta x v) = true ↔ thermal := decide_eq_true_iff
  cases hcause : tripCause set v (stepAfter s.env x v).2 (nextTheta x v) with
  | none =>
    rw [hcause] at hcs
    have hf := hal f
    rw [hcs, hprep.feeder] at hf
    obtain ⟨y, hy, hyx⟩ := kept_some hf
    refine ⟨t, y, hex, hob, hy, by rw [hyx]; rfl, by rw [hyx]; rfl, fun c hc => ?_, fun _ _ _ _ => ?_⟩
    · rw [← hinst, ← hrev, ← hmet, ← hthermal, ← tripCause_eq_some_iff, hcause] at hc
      cases hc
    · have hstep : y.pu.step = (stepAfter s.env x v).1 := by rw [hyx]; rfl
      have hstale : y.pu.stale = if x.state.live then some ⟨s.time, x.conn.settings.tStale⟩ else x.pu.stale := by
        rw [hyx]; rfl
      rw [hstep, hstale, if_pos ((live_iff x).2 hl)]
      refine ⟨by rw [hyx]; rfl, by rw [hyx]; rfl, rfl, fun hcl => stepAfter_of_not_closed s.env v (by simp [hcl]),
        fun hcl => ⟨fun a ha => stepAfter_of_armed s.env v hcl ha, fun hn => ⟨fun old hw hb hd => ?_, fun hn' => ?_⟩⟩⟩
      · exact stepAfter_arms s.env v hcl hn hw hb hd
      · exact stepAfter_stays_disarmed s.env v hcl hn hn'
  | some c =>
    rw [hcause] at hcs
    obtain ⟨z, hz, hpu, hown, hpart⟩ := hprep.takeTrip (some v) hl hpa hww (byPu_of_tripCause hcause)
    have hf := hal f
    rw [hcs] at hf hal
    rw [hz] at hf
    obtain ⟨y, hy, hyz⟩ := kept_some hf
    have hpu' : y.pu = tripPu (judged s.env x v) := by rw [hyz]; exact hpu
    refine ⟨t, y, hex, hob, hy, by rw [hpu']; rfl, by rw [hpu']; rfl, fun c' hc => ?_, fun h₁ h₂ h₃ h₄ => ?_⟩
    · rw [← hinst, ← hrev, ← hmet, ← hthermal, ← tripCause_eq_some_iff, hcause] at hc
      obtain rfl := Option.some.inj hc
      exact ⟨PuTripped.alike hown hyz, PartnerIntertripped.alike hpart hal⟩
    · rw [← hinst] at h₁
      rw [← hrev] at h₂
      rw [← hmet] at h₃
      rw [← hthermal] at h₄
      rw [(tripCause_eq_none_iff ..).2 ⟨h₁, h₂, h₃, h₄⟩] at hcause
      cases hcause

end Sys2Proof.Machine.Protection

namespace Sys2Proof.Machine.Protection

open Sys2Proof Sys2Proof.Machine

variable {b d : Blocks} {s : State} {e : Env} {f : Nat} {x y : Feeder} {new : FeederState} {set : Feeder → Feeder}

/-! ## A change of the tested feeder (R66, R76, R78) -/

/-- From `b` to `d` the feeder `f`, whose record was `x`, has made one change of state, and waits for no insert place. -/
structure MovesTo (e : Env) (f : Nat) (x : Feeder) (b : Blocks) (new : FeederState) (set : Feeder → Feeder) (d : Blocks) :
    Prop where
  feeder : ∃ y, d.feeder? f = some y ∧ Alike (moved e b f new set x) y
  apart : Apart f d

theorem movesTo_moveFeeder (hx : b.feeder? f = some x) (ha : Apart f b) (ns : List NoticeBody) :
    MovesTo e f x b new set (moveFeeder e f new set ns b) :=
  ⟨moveFeeder_feeder e new set ns hx, ha.of_waiting (moveFeeder_waiting ..)⟩

/-- R81 acts on the partner, and so leaves the feeder that has locked out. -/
theorem movesTo_lockOut (hx : b.feeder? f = some x) (ha : Apart f b) (hp : e.partner f ≠ some f) (ns : List NoticeBody) :
    MovesTo e f x b .lockout set (lockOut e f set ns b) := by
  obtain ⟨⟨y, hy, hal⟩, hap⟩ := movesTo_moveFeeder (e := e) (new := .lockout) (set := set) hx ha ns
  have hk := ((ActsOn.refl (S := fun g => e.partner f = some g) (moveFeeder e f .lockout set ns b)).partnerConsequence e
    fun _ h => h).others f hp hap
  rw [hy] at hk
  obtain ⟨z, hz, haz⟩ := kept_some hk.1
  exact ⟨⟨z, hz, hal.trans haz⟩, hk.2⟩

/-- While its contact reads OPEN a feeder that closes is CLOSING. -/
theorem movesTo_enterClosing (hx : b.feeder? f = some x) (ha : Apart f b) (ho : e.aux f = .opened) (ns : List NoticeBody) :
    MovesTo e f x b .closing set (enterClosing e f set ns b) := by
  unfold enterClosing
  rw [if_neg (by simp [ho])]
  exact movesTo_moveFeeder hx ha ns

theorem movesTo_freshDeadTime (hx : b.feeder? f = some x) (ha : Apart f b) (ns : List NoticeBody) :
    MovesTo e f x b (deadOrClear b x.conn.sec) set (freshDeadTime e f set ns b) := by
  unfold freshDeadTime
  rw [hx]
  exact movesTo_moveFeeder hx ha ns

/-! ## FC takes a precheck result (R76) -/

/-- The record of a line test, with the backfeed count it leaves (R64, R76). -/
def precheckNoted (e : Env) (r : PrecheckResult) (v : Option Int) (backfed : Nat) (y : Feeder) : Feeder :=
  { y with lastTest := some ⟨.precheck r v, e.time⟩, backfed := backfed }

section Precheck

variable {v : Option Int} (hx : b.feeder? f = some x) (hs : x.state = .lineTest .precheck) (ha : Apart f b)

include hx hs ha

theorem takePrecheck_passed :
    MovesTo e f x b (.lineTest .settle) (precheckNoted e .passed v x.backfed) (takePrecheck e f .passed v b) := by
  unfold takePrecheck
  rw [hx]
  dsimp only
  rw [if_pos hs]
  exact movesTo_moveFeeder hx ha _

theorem takePrecheck_invalid (hp : e.partner f ≠ some f) :
    MovesTo e f x b .lockout (fun y => withCause .testInvalid (precheckNoted e .invalid v x.backfed y))
      (takePrecheck e f .invalid v b) := by
  unfold takePrecheck
  rw [hx]
  dsimp only
  rw [if_pos hs]
  exact movesTo_lockOut hx ha hp _

theorem takePrecheck_backfed_of_follower (ho : e.aux f = .opened) (hr : x.role = .follower) :
    MovesTo e f x b .closing (precheckNoted e .backfed v 0) (takePrecheck e f .backfed v b) := by
  unfold takePrecheck
  rw [hx]
  dsimp only
  rw [if_pos hs]
  simp only [hr, decide_true, if_true]
  exact movesTo_enterClosing hx ha ho _

theorem takePrecheck_backfed_again (hr : x.role ≠ .follower) (hn : x.backfed < 2) :
    MovesTo e f x b (deadOrClear b x.conn.sec) (precheckNoted e .backfed v (x.backfed + 1))
      (takePrecheck e f .backfed v b) := by
  have hm : min 3 (x.backfed + 1) = x.backfed + 1 := by omega
  have hne : ¬ x.backfed + 1 = 3 := by omega
  unfold takePrecheck
  rw [hx]
  dsimp only
  rw [if_pos hs]
  simp only [hr, decide_false, if_true, Bool.false_eq_true, if_false, hm, hne]
  exact movesTo_freshDeadTime hx ha _

theorem takePrecheck_backfed_third (hp : e.partner f ≠ some f) (hr : x.role ≠ .follower) (hn : 2 ≤ x.backfed) :
    MovesTo e f x b .lockout (fun y => withCause .backfed (precheckNoted e .backfed v 3 y))
      (takePrecheck e f .backfed v b) := by
  have hm : min 3 (x.backfed + 1) = 3 := by omega
  unfold takePrecheck
  rw [hx]
  dsimp only
  rw [if_pos hs]
  simp only [hr, decide_false, if_true, Bool.false_eq_true, if_false, hm]
  exact movesTo_lockOut hx ha hp _

end Precheck

/-! ## FC takes a test result (R78) -/

/-- The record of a line test, with the attempts it leaves (R64, R78). -/
def testNoted (e : Env) (cls : TestClass) (r : Int) (out : TestOutcome) (attempts : Nat) (y : Feeder) : Feeder :=
  { y with lastTest := some ⟨.test cls r out, e.time⟩, attempts := attempts }

section Test

variable {cls : TestClass} {r rEff : Int} {occ : Nat} (hx : b.feeder? f = some x) (hs : x.state = .lineTest .test)
  (ha : Apart f b)

include hx hs ha

theorem takeTest_healthy (ho : e.aux f = .opened) :
    MovesTo e f x b .closing (fun y => { testNoted e cls r .healthy x.attempts y with backfed := 0 })
      (takeTest e f cls r rEff .healthy occ b) := by
  unfold takeTest
  rw [hx]
  dsimp only
  rw [if_pos hs]
  exact movesTo_enterClosing hx ha ho _

theorem takeTest_invalid (hp : e.partner f ≠ some f) :
    MovesTo e f x b .lockout (fun y => withCause .testInvalid (testNoted e cls r .invalid x.attempts y))
      (takeTest e f cls r rEff .invalid occ b) := by
  unfold takeTest
  rw [hx]
  dsimp only
  rw [if_pos hs]
  exact movesTo_lockOut hx ha hp _

theorem takeTest_faulty (hp : e.partner f ≠ some f) {n : Nat}
    (hn : n = if x.attempts < x.conn.settings.nRc then x.attempts + 1 else x.attempts) :
    MovesTo e f x b (if n < x.conn.settings.nRc then deadOrClear b x.conn.sec else .lockout) (testNoted e cls r .faulty n)
      (takeTest e f cls r rEff .faulty occ b) := by
  unfold takeTest
  rw [hx]
  dsimp only
  rw [if_pos hs]
  simp only [true_and, ← hn]
  split_ifs
  · exact movesTo_freshDeadTime hx ha _
  · exact movesTo_lockOut hx ha hp _

end Test

end Sys2Proof.Machine.Protection

namespace Sys2Proof.Machine.Protection

open Sys2Proof Sys2Proof.Machine

variable {b d : Blocks} {s : State} {e : Env} {f : Nat} {x y : Feeder} {new : FeederState} {set : Feeder → Feeder}

/-! ## The last result of an insert (R30) -/

/-- The blocks on which the last result of a line test's insert is delivered: Feeder Control, counts and slot wait list as they
stood. -/
structure Delivers (s : State) (i : Insert) (v : Sample) (b : Blocks) (j : Insert) : Prop where
  feeders : b.feeders = s.blocks.feeders
  sections : b.sections = s.blocks.sections
  waiting : b.sq.waiting = s.blocks.sq.waiting
  kind : j.kind = i.kind
  who : j.who = i.who
  samples : j.results.map (·.sample) = i.results.map (·.sample) ++ [v]

/-- The insert leaves the queue and SQ carries on: nothing for a feeder that waits not (R29, R30). -/
theorem kept_afterDelivery (e : Env) (i : Insert) (d : Blocks) (h : Apart f d) :
    Kept Alike (d.feeder? f) ((carryOn e (admitWaiter e
      { d with sq := { d.sq with inserts := d.sq.inserts.filter fun j => !i.same j, serving := false } })).feeder? f) := by
  have left : ActsOn (fun _ => False) d
      { d with sq := { d.sq with inserts := d.sq.inserts.filter fun j => !i.same j, serving := false } } :=
    (ActsOn.refl d).withWaiting _ fun _ h => h
  exact (((left.admitWaiter e).carryOn e).others f not_false h).1

/-- The command that ends the last conversion of the insert in service delivers its samples (R30). -/
theorem lastResult_delivered {tr : Conversion} {i : Insert} {rest : List Insert} {c : Instr} {code : Int} {valid : Bool}
    {presence : Vector Presence 6} (hs : InService s tr i rest) (hlast : i.results.length + 1 = i.total)
    (h : ConversionEnds s tr c code valid presence) :
    ∃ t b j, exec c s = .next t ∧ OnlyBlocks s t ∧
      FeederEvents { s.blocks with clc := { s.blocks.clc with presence := presence } } t.blocks ∧
      Delivers s i (sampleAt s.blocks tr.channel valid code) b j ∧
      ∀ f, Apart f (deliver s.env j b) → Kept Alike ((deliver s.env j b).feeder? f) (t.blocks.feeder? f) := by
  obtain ⟨po, hpo, hx⟩ := exec_of_conversionEnds hs.run hs.flight h
  set b₀ := linkFreed presence po s.blocks with hb₀
  have hfe : FeederEvents { s.blocks with clc := { s.blocks.clc with presence := presence } } b₀ :=
    ⟨rfl, rfl, rfl, rfl, rfl, rfl, rfl, rfl, rfl, rfl, rfl, rfl, rfl, hpo⟩
  have hh : handResult s.env tr valid code b₀ = insertResult s.env tr.channel valid code b₀ := by
    unfold handResult
    rw [hs.owner]
  rw [hh] at hx
  let j : Insert := { i with results := i.results ++
    [⟨code, valid, sampleAt s.blocks tr.channel valid code, liveNow s.blocks tr.channel⟩] }
  let b : Blocks := { b₀ with sq := { b₀.sq with inserts := j :: rest } }
  have hres : insertResult s.env tr.channel valid code b₀ = completeInsert s.env j b := by
    have hi : b₀.sq.inserts = i :: rest := hs.inserts
    have htot : ¬ j.results.length < j.total := by
      have : j.results.length = i.results.length + 1 := by simp [j]
      have : j.total = i.total := rfl
      omega
    unfold insertResult
    rw [hi]
    exact if_neg htot
  refine ⟨_, b, j, hx, rfl, hfe.insertResult s.env _ _ _, ⟨rfl, rfl, rfl, rfl, rfl, by simp [j]⟩, fun f ha => ?_⟩
  rw [hres]
  exact kept_afterDelivery s.env j _ ha

/-- What a delivery does to the feeder that it moves. -/
theorem moved_afterDelivery {t : Blocks} {j : Insert} (h : MovesTo e f x b new set (deliver e j b))
    (hk : ∀ f, Apart f (deliver e j b) → Kept Alike ((deliver e j b).feeder? f) (t.feeder? f)) :
    ∃ y, t.feeder? f = some y ∧ Alike (moved e b f new set x) y := by
  obtain ⟨y, hy, hal⟩ := h.feeder
  have k := hk f h.apart
  rw [hy] at k
  obtain ⟨z, hz, haz⟩ := kept_some k
  exact ⟨z, hz, hal.trans haz⟩

/-! ## Prechecks (R59, R76) -/

theorem jointClass_eq_normal_iff (ss : List Sample) : jointClass ss = .normal ↔ ∀ p ∈ ss, p.cls = .normal := by
  unfold jointClass
  split_ifs with h₁ h₂
  · simp only [List.any_eq_true, decide_eq_true_eq] at h₁
    obtain ⟨p, hp, hc⟩ := h₁
    simp only [false_iff, not_forall]
    exact ⟨p, hp, by simp [hc]⟩
  · simpa using h₂
  · simpa using h₂

theorem precheckOf_of_normal (vBf : Int) {ss : List Sample} (h : ∀ p ∈ ss, p.cls = .normal) :
    precheckOf vBf ss = (if vBf ≤ average ss then .backfed else .passed, some (average ss)) :=
  if_pos ((jointClass_eq_normal_iff ss).2 h)

theorem precheckOf_of_not_normal (vBf : Int) {ss : List Sample} (h : ∃ p ∈ ss, p.cls ≠ .normal) :
    precheckOf vBf ss = (.invalid, none) :=
  if_neg fun hn => by
    obtain ⟨p, hp, hc⟩ := h
    exact hc ((jointClass_eq_normal_iff ss).1 hn p hp)

theorem deadOrClear_of_sections {z : SectionRec} (hs : b.sections = s.blocks.sections) {sec : Nat}
    (hz : s.blocks.section? sec = some z) :
    deadOrClear b sec = if 0 < z.inhibit then .waitClear else .deadTime .timing := by
  have hb : b.section? sec = some z := by rw [Blocks.section?, hs]; exact hz
  unfold deadOrClear Blocks.inhibit
  rw [hb]

theorem apart_of_unentangled (h : Unentangled f s) (hw : b.sq.waiting = s.blocks.sq.waiting) : Apart f b := by
  unfold Apart
  rw [hw]
  exact h.2

theorem Delivers.feeder {i j : Insert} {v : Sample} (h : Delivers s i v b j) (f : Nat) :
    b.feeder? f = s.blocks.feeder? f := by
  rw [Blocks.feeder?, h.feeders]; rfl

/-- A precheck's samples are judged by R59 with the settings as they stand. -/
theorem deliver_precheck {i j : Insert} {v : Sample} (h : Delivers s i v b j) (hk : i.kind = .precheck)
    (hx : b.feeder? i.who = some x) :
    deliver e j b =
      takePrecheck e i.who (precheckOf x.conn.settings.vBf (i.results.map (·.sample) ++ [v])).1
        (precheckOf x.conn.settings.vBf (i.results.map (·.sample) ++ [v])).2 b := by
  unfold deliver finishPrecheck
  rw [h.kind, hk, h.who, h.samples]
  dsimp only
  rw [hx]

/-- The state in place of a dead time is one of two (R73, R82). -/
theorem dead_cases (n : Nat) : (if 0 < n then FeederState.waitClear else .deadTime .timing) = .waitClear ∨
    (if 0 < n then FeederState.waitClear else .deadTime .timing) = .deadTime .timing := by
  split_ifs <;> simp

/-- Settles O44: the result is that of R59 on all samples, and its move is R76's. -/
theorem prechecksMoveTheFeeder : Obligations.PrechecksMoveTheFeeder := by
  intro s tr i rest x z hs hk hlen hx hst hu ho hz c code valid presence hc ss v dead
  have htot : i.results.length + 1 = i.total := by simp [Insert.total, hk, hlen]
  obtain ⟨t, b, j, hex, hob, hfe, hd, hkeep⟩ := lastResult_delivered hs htot hc
  have hbx : b.feeder? i.who = some x := (hd.feeder _).trans hx
  have ha : Apart i.who b := apart_of_unentangled hu hd.waiting
  have hdel : deliver s.env j b = takePrecheck s.env i.who (precheckOf x.conn.settings.vBf ss).1
      (precheckOf x.conn.settings.vBf ss).2 b := deliver_precheck hd hk hbx
  have hv : average ss = v := by
    have hl : ss.length = i.size := by simp [ss, hlen]
    unfold average
    rw [hl]
  refine ⟨t, ?_⟩
  by_cases hn : ∃ p ∈ ss, p.cls ≠ .normal
  · have hall : ¬ ∀ p ∈ ss, p.cls = .normal := fun hall => hn.elim fun p hp => hp.2 (hall p hp.1)
    rw [precheckOf_of_not_normal _ hn] at hdel
    obtain ⟨y, hy, hal⟩ := moved_afterDelivery (hdel ▸ takePrecheck_invalid hbx hst ha hu.1) hkeep
    refine ⟨y, hex, hob, hfe, hy, ?_⟩
    rw [hal]
    exact ⟨rfl, rfl, fun _ => ⟨rfl, rfl, rfl, rfl, rfl⟩, fun h => absurd h hall⟩
  have hall : ∀ p ∈ ss, p.cls = .normal := by simpa using hn
  rw [precheckOf_of_normal _ hall, hv] at hdel
  by_cases hvb : x.conn.settings.vBf ≤ v
  · have hnb : ¬ v < x.conn.settings.vBf := not_lt.2 hvb
    rw [if_pos hvb] at hdel
    by_cases hr : x.role = .follower
    · obtain ⟨y, hy, hal⟩ := moved_afterDelivery (hdel ▸ takePrecheck_backfed_of_follower hbx hst ha ho hr) hkeep
      refine ⟨y, hex, hob, hfe, hy, ?_⟩
      rw [hal]
      exact ⟨rfl, rfl, fun h => absurd h hn, fun _ => ⟨fun h => absurd h hnb, fun _ => ⟨rfl,
        fun _ => ⟨rfl, rfl, rfl, rfl, rfl⟩, fun h => absurd hr h, fun h => absurd hr h⟩⟩⟩
    by_cases hb : x.backfed < 2
    · have hdead : deadOrClear b x.conn.sec = dead := deadOrClear_of_sections hd.sections hz
      have hcases : dead = .waitClear ∨ dead = .deadTime .timing := dead_cases z.inhibit
      obtain ⟨y, hy, hal⟩ := moved_afterDelivery (hdel ▸ takePrecheck_backfed_again hbx hst ha hr hb) hkeep
      rw [hdead] at hal
      refine ⟨y, hex, hob, hfe, hy, ?_⟩
      clear_value dead
      rw [hal]
      rcases hcases with rfl | rfl <;>
      exact ⟨rfl, rfl, fun h => absurd h hn, fun _ => ⟨fun h => absurd h hnb, fun _ => ⟨rfl, fun h => absurd h hr,
        fun _ _ => ⟨rfl, rfl, rfl, rfl⟩, fun _ h => absurd h (not_le.2 hb)⟩⟩⟩
    · obtain ⟨y, hy, hal⟩ := moved_afterDelivery (hdel ▸ takePrecheck_backfed_third hbx hst ha hu.1 hr (not_lt.1 hb)) hkeep
      refine ⟨y, hex, hob, hfe, hy, ?_⟩
      rw [hal]
      exact ⟨rfl, rfl, fun h => absurd h hn, fun _ => ⟨fun h => absurd h hnb, fun _ => ⟨rfl, fun h => absurd h hr,
        fun _ h => absurd h hb, fun _ _ => ⟨rfl, rfl, rfl, rfl⟩⟩⟩⟩
  · rw [if_neg hvb] at hdel
    obtain ⟨y, hy, hal⟩ := moved_afterDelivery (hdel ▸ takePrecheck_passed hbx hst ha) hkeep
    refine ⟨y, hex, hob, hfe, hy, ?_⟩
    rw [hal]
    exact ⟨rfl, rfl, fun h => absurd h hn, fun _ => ⟨fun _ => ⟨rfl, rfl, rfl, rfl, rfl, rfl⟩, fun h => absurd h hvb⟩⟩

/-! ## Tests (R60 to R63, R78) -/

theorem evens_pairs {α : Type} (ps : List (α × α)) : evens (ps.flatMap fun p => [p.1, p.2]) = ps.map (·.1) := by
  induction ps with
  | nil => rfl
  | cons p ps ih => simp [evens, ih]

theorem odds_pairs {α : Type} (ps : List (α × α)) : odds (ps.flatMap fun p => [p.1, p.2]) = ps.map (·.2) := by
  induction ps with
  | nil => rfl
  | cons p ps ih =>
    cases ps with
    | nil => rfl
    | cons q qs => simpa [odds, evens] using ih

theorem length_pairs {α : Type} (ps : List (α × α)) : (ps.flatMap fun p => [p.1, p.2]).length = 2 * ps.length := by
  induction ps with
  | nil => rfl
  | cons p ps ih => simp [ih]; omega

/-- R61's class and resistance where every sample is NORMAL. -/
theorem testClassOf_of_normal (rT : Int) {bus line : List Sample} (h₁ : ∀ p ∈ bus, p.cls = .normal)
    (h₂ : ∀ p ∈ line, p.cls = .normal) : testClassOf rT bus line = testOf rT (average bus) (average line) :=
  if_pos ⟨(jointClass_eq_normal_iff _).2 h₁, (jointClass_eq_normal_iff _).2 h₂⟩

theorem testClassOf_of_not_normal (rT : Int) {bus line : List Sample}
    (h : ¬ ((∀ p ∈ bus, p.cls = .normal) ∧ ∀ p ∈ line, p.cls = .normal)) : testClassOf rT bus line = (.invalid, 0) :=
  if_neg fun hn => h ⟨(jointClass_eq_normal_iff _).1 hn.1, (jointClass_eq_normal_iff _).1 hn.2⟩

theorem average_map {α : Type} (g : α → Sample) (ps : List α) :
    average (ps.map g) = (ps.map fun p => (g p).value).sum / (ps.length : Int) := by
  simp [average, Function.comp_def]

/-- FC takes the outcome that R62 gives a class and resistance. -/
def takeTestOf (e : Env) (f : Nat) (cr : TestClass × Int) (rEff : Int) (occ : Nat) (b : Blocks) : Blocks :=
  takeTest e f cr.1 cr.2 rEff (outcomeOf cr.1 cr.2 rEff) occ b

/-- A test's pairs are judged by R60 to R62 with the settings and the occupancy as they stand. -/
theorem deliver_test {i j : Insert} {v : Sample} {z : SectionRec} {pairs : List (Sample × Sample)} (h : Delivers s i v b j)
    (hk : i.kind = .test) (hx : b.feeder? i.who = some x) (hz : s.blocks.section? x.conn.sec = some z)
    (hp : i.results.map (·.sample) ++ [v] = pairs.flatMap fun p => [p.1, p.2]) :
    deliver e j b =
      takeTestOf e i.who (testClassOf x.conn.settings.rT (pairs.map (·.1)) (pairs.map (·.2)))
        (effectiveR x.conn.settings.rMin z.occupancy) z.occupancy b := by
  have hocc : ((b.section? x.conn.sec).map fun y : SectionRec => y.occupancy).getD 0 = z.occupancy := by
    rw [Blocks.section?, h.sections, show look s.blocks.sections x.conn.sec = some z from hz]
    rfl
  unfold deliver finishTest
  rw [h.kind, hk, h.who, h.samples, hp]
  dsimp only
  rw [hx]
  dsimp only
  rw [hocc, evens_pairs, odds_pairs]
  rfl

/-- What a HEALTHY test leaves of the record `x` (R78). -/
structure Healthy (e : Env) (x : Feeder) (cls : TestClass) (r : Int) (y : Feeder) : Prop where
  conn : y.conn = x.conn
  state : y.state = .closing
  cause : y.cause = x.cause
  attempts : y.attempts = x.attempts
  backfed : y.backfed = 0
  close : y.closeCoil = true
  timer : y.stateTimer = some ⟨e.time, x.conn.settings.tClose⟩
  lastTest : y.lastTest = some ⟨.test cls r .healthy, e.time⟩

/-- What a FAULTY test leaves of the record `x`, `dead` being the state in place of a dead time (R78). -/
structure Faulty (e : Env) (x : Feeder) (dead : FeederState) (cls : TestClass) (r : Int) (y : Feeder) : Prop where
  conn : y.conn = x.conn
  attempts : y.attempts = if x.attempts < x.conn.settings.nRc then x.attempts + 1 else x.attempts
  cause : y.cause = x.cause
  backfed : y.backfed = x.backfed
  state : y.state = if y.attempts < x.conn.settings.nRc then dead else .lockout
  lastTest : y.lastTest = some ⟨.test cls r .faulty, e.time⟩

section Outcomes

variable {j : Insert} {t : Blocks} {cls : TestClass} {r rEff : Int} {occ : Nat} (hx : b.feeder? f = some x)
  (hs : x.state = .lineTest .test) (ha : Apart f b)
  (hk : ∀ f, Apart f (deliver e j b) → Kept Alike ((deliver e j b).feeder? f) (t.feeder? f))

include hx hs ha hk

theorem healthy_delivered (ho : e.aux f = .opened) (hd : deliver e j b = takeTestOf e f (cls, r) rEff occ b)
    (hout : outcomeOf cls r rEff = .healthy) : ∃ y, t.feeder? f = some y ∧ Healthy e x cls r y := by
  rw [takeTestOf, hout] at hd
  obtain ⟨y, hy, hal⟩ := moved_afterDelivery (hd ▸ takeTest_healthy hx hs ha ho) hk
  refine ⟨y, hy, ?_⟩
  rw [hal]
  exact ⟨rfl, rfl, rfl, rfl, rfl, rfl, rfl, rfl⟩

theorem faulty_delivered (hp : e.partner f ≠ some f) (hd : deliver e j b = takeTestOf e f (cls, r) rEff occ b)
    (hout : outcomeOf cls r rEff = .faulty) :
    ∃ y, t.feeder? f = some y ∧ Faulty e x (deadOrClear b x.conn.sec) cls r y := by
  rw [takeTestOf, hout] at hd
  obtain ⟨n, hn⟩ : ∃ n, n = if x.attempts < x.conn.settings.nRc then x.attempts + 1 else x.attempts := ⟨_, rfl⟩
  obtain ⟨y, hy, hal⟩ := moved_afterDelivery (hd ▸ takeTest_faulty hx hs ha hp hn) hk
  refine ⟨y, hy, ?_⟩
  have hcases : deadOrClear b x.conn.sec = .waitClear ∨ deadOrClear b x.conn.sec = .deadTime .timing := dead_cases _
  have hback {new : FeederState} (hnew : new = .waitClear ∨ new = .deadTime .timing ∨ new = .lockout) :
      (moved e b f new (testNoted e cls r .faulty n) x).backfed = x.backfed := by
    rcases hnew with rfl | rfl | rfl <;> rfl
  rw [hal]
  refine ⟨rfl, hn, rfl, hback ?_, rfl, rfl⟩
  split_ifs
  · exact hcases.imp_right .inl
  · exact .inr (.inr rfl)

theorem invalid_delivered (hp : e.partner f ≠ some f) (hd : deliver e j b = takeTestOf e f (.invalid, r) rEff occ b) :
    ∃ y, t.feeder? f = some y ∧ Alike (moved e b f .lockout
      (fun y => withCause .testInvalid (testNoted e .invalid r .invalid x.attempts y)) x) y := by
  rw [takeTestOf, show outcomeOf .invalid r rEff = .invalid from rfl] at hd
  exact moved_afterDelivery (hd ▸ takeTest_invalid hx hs ha hp) hk

end Outcomes

/-- Settles O45: class, resistance and outcome are those of R60 to R62, and the move is R78's. -/
theorem testsMoveTheFeeder : Obligations.TestsMoveTheFeeder := by
  intro s tr i rest x z hs hk hlen hx hst hu ho hz c code valid presence pairs hc hpairs set u v rEff r dead
  have htot : i.results.length + 1 = i.total := by simp [Insert.total, hk, hlen]
  obtain ⟨t, b, j, hex, hob, hfe, hd, hkeep⟩ := lastResult_delivered hs htot hc
  have hbx : b.feeder? i.who = some x := (hd.feeder _).trans hx
  have ha : Apart i.who b := apart_of_unentangled hu hd.waiting
  have hdel : deliver s.env j b = takeTestOf s.env i.who
      (testClassOf set.rT (pairs.map (·.1)) (pairs.map (·.2))) rEff z.occupancy b := deliver_test hd hk hbx hz hpairs
  have hsize : pairs.length = i.size := by
    have := congrArg List.length hpairs
    rw [length_pairs] at this
    simp at this
    omega
  have hu' : average (pairs.map (·.1)) = u := by rw [average_map, hsize]
  have hv' : average (pairs.map (·.2)) = v := by rw [average_map, hsize]
  refine ⟨t, ?_⟩
  by_cases hn : ∃ p ∈ pairs, p.1.cls ≠ .normal ∨ p.2.cls ≠ .normal
  · obtain ⟨p, hp, hcl⟩ := hn
    have hnot : ¬ ∀ p ∈ pairs, p.1.cls = .normal ∧ p.2.cls = .normal := fun hall =>
      hcl.elim (· (hall p hp).1) (· (hall p hp).2)
    rw [testClassOf_of_not_normal set.rT fun h => hcl.elim (· (h.1 _ (List.mem_map_of_mem hp)))
      (· (h.2 _ (List.mem_map_of_mem hp)))] at hdel
    obtain ⟨y, hy, hal⟩ := invalid_delivered hbx hst ha hkeep hu.1 hdel
    refine ⟨y, hex, hob, hfe, hy, ?_⟩
    rw [hal]
    exact ⟨rfl, fun _ => ⟨rfl, rfl, rfl, rfl⟩, fun h => absurd h hnot⟩
  have hall : ∀ p ∈ pairs, p.1.cls = .normal ∧ p.2.cls = .normal := by simpa [not_or] using hn
  rw [testClassOf_of_normal set.rT (List.forall_mem_map.2 fun p hp => (hall p hp).1)
    (List.forall_mem_map.2 fun p hp => (hall p hp).2), hu', hv'] at hdel
  have hdead : deadOrClear b x.conn.sec = dead := deadOrClear_of_sections hd.sections hz
  by_cases h50 : v < 50
  · rw [show testOf set.rT u v = (.short, 0) from if_pos h50] at hdel
    obtain ⟨y, hy, k⟩ := faulty_delivered hbx hst ha hkeep hu.1 hdel rfl
    rw [hdead] at k
    exact ⟨y, hex, hob, hfe, hy, k.conn, fun h => absurd h hn, fun _ =>
      ⟨fun _ => ⟨k.attempts, k.cause, k.backfed, k.state, k.lastTest⟩, fun h => absurd h50 (not_lt.2 h),
        fun h => absurd h50 (not_lt.2 h)⟩⟩
  by_cases huv : u - v ≤ 0
  · rw [show testOf set.rT u v = (.opened, 65535) from (if_neg h50).trans (if_pos huv)] at hdel
    obtain ⟨y, hy, k⟩ := healthy_delivered hbx hst ha hkeep ho hdel rfl
    exact ⟨y, hex, hob, hfe, hy, k.conn, fun h => absurd h hn, fun _ => ⟨fun h => absurd h h50,
      fun _ _ => ⟨k.state, k.cause, k.attempts, k.backfed, k.close, k.timer, k.lastTest⟩,
      fun _ h => absurd huv (not_le.2 h)⟩⟩
  rw [show testOf set.rT u v = (.normal, r) from (if_neg h50).trans (if_neg huv)] at hdel
  by_cases hr : rEff ≤ r
  · obtain ⟨y, hy, k⟩ := healthy_delivered hbx hst ha hkeep ho hdel (if_pos hr)
    exact ⟨y, hex, hob, hfe, hy, k.conn, fun h => absurd h hn, fun _ => ⟨fun h => absurd h h50, fun _ h => absurd h huv,
      fun _ _ => ⟨fun _ => ⟨k.state, k.cause, k.attempts, k.backfed, k.close, k.timer, k.lastTest⟩,
        fun h => absurd hr (not_le.2 h)⟩⟩⟩
  · obtain ⟨y, hy, k⟩ := faulty_delivered hbx hst ha hkeep hu.1 hdel (if_neg hr)
    rw [hdead] at k
    exact ⟨y, hex, hob, hfe, hy, k.conn, fun h => absurd h hn, fun _ => ⟨fun h => absurd h h50, fun _ h => absurd h huv,
      fun _ _ => ⟨fun h => absurd h hr, fun _ => ⟨k.attempts, k.cause, k.backfed, k.state, k.lastTest⟩⟩⟩⟩

end Sys2Proof.Machine.Protection
